-- ==== Sys2Proof/Word.lean ====
section
/-!
DEFINITION. The words, bytes and identities of the ID4208.
The spec's sizes (00_scope.md, 1.7): a host address is 32 bits, a channel address 24 bits, a line 16 bytes,
a page number 13 bits, a frame number 21 bits; channels are numbered 0..7.
-/

namespace Sys2Proof

/-- A 32-bit host address, or a 32-bit word of the register window or of a page map. -/
abbrev Word := BitVec 32

/-- One byte of a line or of a request. -/
abbrev Byte := BitVec 8

/-- A channel number, 0..7. -/
abbrev Chan := Fin 8

/-- A 24-bit channel address as a peripheral presents it (R1). -/
abbrev ChanAddr := BitVec 24

/-- A page number of channel address space, 0..8191 (R1). -/
abbrev Page := BitVec 13

/-- A host frame number, 0..0x1F_FFFF (R11). -/
abbrev Frame := BitVec 21

/-- The 16 bytes of one line, byte 0 at the line's own address. -/
abbrev LineData := Vector Byte 16

/-- A way of the shadow tag store, 0..7 (R100). -/
abbrev Way := Fin 8

end Sys2Proof
end

