-- ==== Sys2Proof/Config.lean ====
section
/-!
DEFINITION. The free values: what the spec leaves open while the block goes on. Each is a constant with no body,
so nothing can be proved of its value, and a claim about the block holds whatever it is.
-/

namespace Sys2Proof

/-- R100: what the entry of shadow set `set`, way `way` holds after the power-on numbered `epoch`: "The valid field and
tag of each entry take no particular value." `none` is an entry that reads as free, `some tag` one that reads as valid.
Log entry 1. -/
opaque Config.powerOnTag : (epoch : Nat) → (set : Fin 256) → (way : Fin 8) → Option (BitVec 20)

/-- R85, R123: the order in which the buffers that expire on ONE tick ask the invalidate queue for a place. The spec
orders waiters by request and states no order among the requests of one tick. The number picks one order of the
expiring channels (`Machine.pickOrder`). Log entry 2. -/
opaque Config.expiryOrder : (draw : Nat) → Nat

end Sys2Proof
end

