-- ==== Sys2Proof/Syntax.lean ====
section
/-!
DEFINITION. The commands of the block: one constructor of `Instr` for each row of spec/opcode_table.json, with the
row's operands, and the types of those operands.
-/

namespace Sys2Proof

/-- R1: the access size on a port is 2 or 4 bytes; the port has no encoding for any other. -/
inductive Size where
  | two
  | four
  deriving DecidableEq, Repr

/-- The size in bytes. -/
def Size.bytes : Size → Nat
  | .two => 2
  | .four => 4

/-- R58: the 2 or 4 bytes a WRITE carries, the byte for the lowest channel address first. -/
inductive WriteData where
  | two (b0 b1 : Byte)
  | four (b0 b1 b2 b3 : Byte)
  deriving DecidableEq, Repr

/-- The access size of a WRITE. -/
def WriteData.size : WriteData → Size
  | .two _ _ => .two
  | .four _ _ _ _ => .four

/-- The bytes of a WRITE in address order. -/
def WriteData.toList : WriteData → List Byte
  | .two b0 b1 => [b0, b1]
  | .four b0 b1 b2 b3 => [b0, b1, b2, b3]

/-- R167: the three registers of a channel's descriptor. -/
inductive DescReg where
  | mapOrigin
  | mapLength
  | channelSettings
  deriving DecidableEq, Repr

/-- R44: what completes a WALK read: the 4-byte word, or a bus error with no word. -/
inductive WalkResult where
  | word (w : Word)
  | busError
  deriving DecidableEq, Repr

/-- R96: what completes a line READ: the 16 bytes of the line, or a bus error. -/
inductive LineResult where
  | line (d : LineData)
  | busError
  deriving DecidableEq, Repr

/-- R136: an acknowledge of a line WRITE or of a KILL, OK or with a bus error. -/
inductive Ack where
  | ok
  | busError
  deriving DecidableEq, Repr

/-- R138, R146: a completion as it arrives from the bus: the identity of its cycle (the kind of the cycle with the
number the bridge gave it at its address phase) and what it brings back. -/
inductive Completion where
  | walk (id : Nat) (result : WalkResult)
  | lineRead (id : Nat) (result : LineResult)
  | lineWrite (id : Nat) (ack : Ack)
  | kill (id : Nat) (ack : Ack)
  deriving DecidableEq, Repr

/-- The commands, one for each row of spec/opcode_table.json, in the table's order. -/
inductive Instr where
  /-- `RESET#` goes low (R180). -/
  | resetAssertion
  /-- `RESET#` goes high; the two strap pins as they then stand, `true` for high (R181, R164). -/
  | resetRelease (wsel1 wsel0 : Bool)
  /-- A READ request at a channel port (R14, R58). -/
  | read (c : Chan) (addr : ChanAddr) (size : Size)
  /-- A WRITE request at a channel port (R14, R58). -/
  | write (c : Chan) (addr : ChanAddr) (data : WriteData)
  /-- A SYNC request at a channel port (R63). -/
  | sync (c : Chan)
  /-- The nine writes to COMMAND; each carries both operand fields as written (R168 to R171). -/
  | chEnable (channel : BitVec 4) (page : BitVec 14)
  | chDisable (channel : BitVec 4) (page : BitVec 14)
  | chResume (channel : BitVec 4) (page : BitVec 14)
  | chAbort (channel : BitVec 4) (page : BitVec 14)
  | xlatFlushPage (channel : BitVec 4) (page : BitVec 14)
  | xlatFlushChannel (channel : BitVec 4) (page : BitVec 14)
  | xlatFlushAll (channel : BitVec 4) (page : BitVec 14)
  | xlatProbe (channel : BitVec 4) (page : BitVec 14)
  | tagsClear (channel : BitVec 4) (page : BitVec 14)
  /-- The TC port serves a channel's lookup claim (R25). -/
  | lookupService
  /-- The TC port serves the command unit's claim (R22). -/
  | commandService
  /-- The bus grants the bridge an address phase (R139). -/
  | busGrant
  /-- A WALK read completes (R45). -/
  | walkDataReturn (id : Nat) (result : WalkResult)
  /-- A line READ completes (R96). -/
  | lineReadDataReturn (id : Nat) (result : LineResult)
  /-- A line WRITE is acknowledged (R89). -/
  | lineWriteAcknowledge (id : Nat) (ack : Ack)
  /-- A KILL is acknowledged (R131). -/
  | killAcknowledge (id : Nat) (ack : Ack)
  /-- A completion whose identity names no occupied cycle record (R146). -/
  | ignoredCompletion (completion : Completion)
  /-- A write address phase of the host or of another master: byte `i` of `enables` stands for the byte at
  `addr + i` (R144). -/
  | observedWrite (addr : Word) (enables : List Bool)
  /-- A host line fill naming its cache way (R103). -/
  | fill (line : Word) (way : Way)
  /-- A step of the shadow store's sweep (R117). -/
  | sweepStep
  /-- A tick of the timebase (R85). -/
  | tick
  /-- The idle timer of one channel's buffer reaches 0 (R85). -/
  | idleTimerExpiry (c : Chan)
  /-- A 4-byte write to RESET_CONTROL with bit 0 set (R173). -/
  | softReset
  /-- A 4-byte write to FAULT_POP; the value plays no part (R155). -/
  | faultPop (value : Word)
  /-- A 4-byte write to TIMEBASE (R84, R175). -/
  | divisorWrite (value : Word)
  /-- A write of the shadow mode field (R107). -/
  | modeWrite (mode : BitVec 2)
  /-- A write of the way mask field (R106). -/
  | wayMaskWrite (mask : BitVec 8)
  /-- A 4-byte write to a register of a channel's descriptor (R6). -/
  | descriptorWrite (c : Chan) (reg : DescReg) (value : Word)
  /-- A 4-byte write to GLOBAL_STATUS (R157). -/
  | globalStatusClear (value : Word)
  /-- A 4-byte write to INT_CAUSE (R161). -/
  | intCauseClear (value : Word)
  /-- A 4-byte write to CHANNEL_OFF_SET (R160). -/
  | channelOffClear (value : Word)
  /-- A 4-byte write to INT_MASK (R162). -/
  | intMaskWrite (value : Word)
  /-- A write by a bus master to one word of host address space: `lanes` bit `i` is set when the write covers bits
  `8i+7..8i` of the word (R164, R165). -/
  | registerWrite (addr : Word) (lanes : BitVec 4) (value : Word)
  deriving DecidableEq, Repr

end Sys2Proof
end

