-- ==== Sys2Proof/WellFormed.lean ====
section
/-!
DEFINITION. Which commands a bus or a port can send at all. The operand types already exclude most of what cannot be
sent (a channel above 7, a size other than 2 or 4); the checks below are what they leave.
-/

namespace Sys2Proof

/-- Well-formedness of a command's operands.
* FILL carries a host line address, so its low four bits are 0 (R101, R103).
* OBSERVED_WRITE writes at least one byte, and its bytes lie inside the 32-bit host address space (R144).
* REGISTER_WRITE names a 4-byte-aligned word and covers at least one of its bytes (R164, R165). -/
def Instr.wellFormed : Instr → Bool
  | .fill line _ => line.toNat % 16 == 0
  | .observedWrite addr enables => enables.any id && decide (addr.toNat + enables.length ≤ 2 ^ 32)
  | .registerWrite addr lanes _ => addr.toNat % 4 == 0 && lanes != 0
  | .resetAssertion | .resetRelease .. | .read .. | .write .. | .sync .. => true
  | .chEnable .. | .chDisable .. | .chResume .. | .chAbort .. => true
  | .xlatFlushPage .. | .xlatFlushChannel .. | .xlatFlushAll .. | .xlatProbe .. | .tagsClear .. => true
  | .lookupService | .commandService | .busGrant => true
  | .walkDataReturn .. | .lineReadDataReturn .. | .lineWriteAcknowledge .. | .killAcknowledge .. => true
  | .ignoredCompletion .. | .sweepStep | .tick | .idleTimerExpiry .. | .softReset | .faultPop .. => true
  | .divisorWrite .. | .modeWrite .. | .wayMaskWrite .. | .descriptorWrite .. => true
  | .globalStatusClear .. | .intCauseClear .. | .channelOffClear .. | .intMaskWrite .. => true

end Sys2Proof
end

