-- ==== Sys2Proof/Decode.lean ====
section
/-!
DEFINITION. The command a word spells. spec/opcode_table.json gives bits to none of its 38 rows (the block takes
commands, it fetches no instruction word), so no word spells a command.
-/

namespace Sys2Proof

/-- No row of the opcode table has bits: there is no word to decode (log entry 3). -/
def decodeTableWord (_nbits _w : Nat) : Option Instr := none

end Sys2Proof
end

