-- ==== Sys2Proof/Machine/Blocks.lean ====
section
/-!
DEFINITION. The pieces the state is made of, block by block, each as the spec's tables list its fields.
State itself is put together from them in Machine/State.lean.
-/

namespace Sys2Proof.Machine

/-! ## Channel front end (Chapters 1, 4 and 5) -/

/-- R65: the five channel states. -/
inductive ChState where
  | disabled | active | faulted | draining | aborting
  deriving DecidableEq, Repr

/-- R2: the five fields of a channel descriptor. `mapOrigin` is kept with bits 5..0 zero (R3). -/
structure Descriptor where
  mapOrigin : Word
  mapLength : BitVec 14
  quota : BitVec 5
  idleTimeout : BitVec 8
  readAhead : Bool
  deriving DecidableEq, Repr

/-- R58: a request as a port presents it. -/
inductive Request where
  | read (addr : ChanAddr) (size : Size)
  | write (addr : ChanAddr) (data : WriteData)
  | sync
  deriving DecidableEq, Repr

/-- R60: the phases of a pending transaction. -/
inductive Phase where
  | waitLookup | waitWalk | waitBuffer | waitRead | waitSync
  deriving DecidableEq, Repr

/-- R60: the translation a transaction carries from the permission check it passed (R17, R18): the host line address,
the position in the line of the access's first byte, and COH. -/
structure Translation where
  line : Word
  pos : BitVec 4
  coh : Bool
  deriving DecidableEq, Repr

/-- R60: the record of a channel's pending transaction. -/
structure Transaction where
  request : Request
  phase : Phase
  translation : Option Translation
  writeErrorSeen : Bool
  deriving DecidableEq, Repr

/-- R59: the answers of a port. `done` carries the bytes of a READ in address order, and none for a WRITE or SYNC. -/
inductive Answer where
  | done (bytes : List Byte)
  | fault
  | stopped
  | dataError
  deriving DecidableEq, Repr

/-- R80: the states of a coalescing buffer. -/
inductive BufState where
  | empty | filling | pending | writing
  deriving DecidableEq, Repr

/-- R80: whether a buffer holds an invalidate place, waits for one, or neither. -/
inductive Reservation where
  | none | held | waiting
  deriving DecidableEq, Repr

/-- R80: the fields of a coalescing buffer. -/
structure Buffer where
  state : BufState
  line : Word
  data : LineData
  mask : Vector Bool 16
  coh : Bool
  lineStart : ChanAddr
  reservation : Reservation
  timer : Nat
  deriving DecidableEq, Repr

/-- R93: a valid read-ahead line. -/
structure HeldLine where
  line : Word
  data : LineData
  deriving DecidableEq, Repr

/-- R93: a line read record that is not none: requested (`issued` false) or issued. -/
structure LineRead where
  line : Word
  issued : Bool
  stalePending : Bool
  discard : Bool
  deriving DecidableEq, Repr

/-- One channel: its state, descriptor, pending transaction (R60), coalescing buffer (R80), read-ahead line and line
read record (R93), the requests presented at its port and not yet taken (R58), and the answers its port has given,
oldest first (R59). -/
structure Channel where
  state : ChState
  desc : Descriptor
  txn : Option Transaction
  buffer : Buffer
  readAhead : Option HeldLine
  lineRead : Option LineRead
  held : List Request
  answers : List Answer
  deriving DecidableEq, Repr

/-! ## Translation cache and command unit (Chapters 2 and 10) -/

/-- R11, R19: what a valid map entry translates to: the frame number and the rights. -/
structure Xlat where
  frame : Frame
  rd : Bool
  wr : Bool
  coh : Bool
  deriving DecidableEq, Repr

/-- R19: a valid entry of the translation cache. A free entry is `none`. -/
structure TcEntry where
  chan : Chan
  page : Page
  xlat : Xlat
  deriving DecidableEq, Repr

/-- R22: the nine requesters of the TC port. -/
inductive PortUser where
  | channel (c : Chan)
  | commandUnit
  deriving DecidableEq, Repr

/-- R39: the probe result. -/
structure ProbeResult where
  hit : Bool
  entry : Fin 16
  xlat : Xlat
  deriving DecidableEq, Repr

/-- The translation cache: its sixteen entries (R19), the recency list, most recent first (R20), the port's record of
the requester served last (R23), and the probe result (R39). -/
structure Tc where
  entries : Vector (Option TcEntry) 16
  recency : List (Fin 16)
  lastServed : PortUser
  probe : ProbeResult
  deriving DecidableEq, Repr

/-- R168: the nine commands of the command unit. -/
inductive CommandName where
  | chEnable | chDisable | chResume | chAbort
  | xlatFlushPage | xlatFlushChannel | xlatFlushAll | xlatProbe
  | tagsClear
  deriving DecidableEq, Repr

/-- R171: command outcomes. -/
inductive CmdOutcome where
  | ok | wrongState | badDesc | badOperand | resetting
  deriving DecidableEq, Repr

/-- R169, R171: the command unit's state and its record of the last command (`none`: no command since power-on). -/
structure CommandUnit where
  busy : Bool
  command : Option CommandName
  channel : BitVec 4
  page : BitVec 14
  outcome : CmdOutcome
  deriving DecidableEq, Repr

/-! ## Walk unit (Chapter 3) -/

/-- R41: a busy walk slot. -/
structure Walk where
  chan : Chan
  page : Page
  entryAddr : Word
  issued : Bool
  stale : Bool
  discard : Bool
  deriving DecidableEq, Repr

/-- R42: a place of the walk wait queue. -/
structure WalkWait where
  chan : Chan
  page : Page
  deriving DecidableEq, Repr

/-- The walk unit: two slots (`none` is idle, R41), the slots whose WALK request stands, the earlier placed first
(R44, R137), and the walk wait queue, head first (R42). -/
structure WalkUnit where
  slots : Vector (Option Walk) 2
  requests : List (Fin 2)
  queue : List WalkWait
  deriving DecidableEq, Repr

/-! ## Shadow tag store and invalidate queue (Chapters 6 and 7) -/

/-- R102: the shadow modes. -/
inductive ShadowMode where
  | off | track | broadcast
  deriving DecidableEq, Repr

/-- R102: the store states. -/
inductive StoreState where
  | idle | clearing
  deriving DecidableEq, Repr

/-- R100: a valid entry of the shadow tag store. A cleared entry is `none`. -/
structure ShadowEntry where
  tag : BitVec 20
  fresh : Bool
  deriving DecidableEq, Repr

/-- The eight ways of one set of the shadow tag store (R100). -/
abbrev ShadowSet := Vector (Option ShadowEntry) 8

/-- The shadow tag store: 256 sets of 8 ways (R100) and the four pieces of store-wide state (R102). Bit `w` of `wayMask`
enables way `w`. -/
structure Shadow where
  sets : Vector ShadowSet 256
  mode : ShadowMode
  wayMask : BitVec 8
  state : StoreState
  pointer : Nat
  deriving DecidableEq, Repr

/-- R122, R127: a queued invalidate entry; `chans` has no repeats. -/
structure InvEntry where
  line : Word
  chans : List Chan
  issued : Bool
  deriving DecidableEq, Repr

/-- R122: the queued entries, head first, and the waiters, oldest first. The reservations are the buffers whose
`reservation` is held (R80): they are stored there once. -/
structure InvQueue where
  entries : List InvEntry
  waiters : List Chan
  deriving DecidableEq, Repr

/-! ## Bus master (Chapter 8) -/

/-- R136: who masters a cycle; it decides the cycle's kind. -/
inductive Requester where
  | walk (slot : Fin 2)
  | read (c : Chan)
  | write (c : Chan)
  | kill
  deriving DecidableEq, Repr

/-- R138: an occupied cycle record, with the number of its identity. -/
structure Cycle where
  id : Nat
  requester : Requester
  deriving DecidableEq, Repr

/-- R138, R140: the occupied cycle records in the order of their address phases, the channel each round-robin class
served last, and the number the next cycle's identity gets (the model's own field, log entry 6). -/
structure BusMaster where
  cycles : List Cycle
  writeLast : Chan
  readLast : Chan
  nextId : Nat
  deriving DecidableEq, Repr

/-! ## Faults, status, interrupts, timebase (Chapters 5 and 9) -/

/-- R151: the access kind of a fault. -/
inductive Access where
  | read | write
  deriving DecidableEq, Repr

/-- R151: the eight fault causes. -/
inductive Cause where
  | notValid | noRead | noWrite | outOfMap | misaligned | mapBusErr | readBusErr | writeBusErr
  deriving DecidableEq, Repr

/-- R151: a fault record. -/
structure FaultRecord where
  seq : BitVec 8
  chan : Chan
  access : Access
  addr : ChanAddr
  cause : Cause
  deriving DecidableEq, Repr

/-- R150, R152: the fault log, head first, and the sequence counter. -/
structure FaultLog where
  records : List FaultRecord
  nextSeq : BitVec 8
  deriving DecidableEq, Repr

/-- R157: the five sticky flags. -/
structure Sticky where
  fillWay : Bool
  killFail : Bool
  descIgnored : Bool
  cmdOverrun : Bool
  badWrite : Bool
  deriving DecidableEq, Repr

/-- R158, R160, R162: the four stored sticky causes, the channel set of CHANNEL_OFF (bit `c` for channel `c`) and the
six mask enables (bits as in INT_MASK). FAULT_PENDING and the CHANNEL_OFF cause are functions of other state. -/
structure Interrupts where
  logOverflow : Bool
  coherence : Bool
  cmdDone : Bool
  sweepDone : Bool
  channelOff : BitVec 8
  mask : BitVec 6
  deriving DecidableEq, Repr

/-- R84: the divisor and the count of bridge-clock periods since the last tick. -/
structure Timebase where
  divisor : BitVec 8
  count : Nat
  deriving DecidableEq, Repr

/-- R173: the bridge states. -/
inductive BridgeState where
  | running | resetting
  deriving DecidableEq, Repr

end Sys2Proof.Machine
end

