-- ==== Sys2Proof/Machine/PowerOn.lean ====
section
/-!
DEFINITION. The value each block takes at power-on, as its chapter gives it.
-/

namespace Sys2Proof.Machine

/-- R80: an EMPTY buffer: "When the buffer becomes EMPTY, every field is cleared". -/
def Buffer.cleared : Buffer where
  state := .empty
  line := 0
  data := Vector.replicate 16 0
  mask := Vector.replicate 16 false
  coh := false
  lineStart := 0
  reservation := .none
  timer := 0

/-- R2: the power-on values of a descriptor. -/
def Descriptor.powerOn : Descriptor where
  mapOrigin := 0
  mapLength := 0
  quota := 4
  idleTimeout := 16
  readAhead := true

/-- R79, R80, R93: a channel at power-on. -/
def Channel.powerOn : Channel where
  state := .disabled
  desc := Descriptor.powerOn
  txn := none
  buffer := Buffer.cleared
  readAhead := none
  lineRead := none
  held := []
  answers := []

/-- R19: the frame and rights of a free entry, and of a PROBE miss (R39). -/
def Xlat.zero : Xlat := { frame := 0, rd := false, wr := false, coh := false }

/-- R39: the probe result of a miss. -/
def ProbeResult.miss : ProbeResult := { hit := false, entry := 0, xlat := Xlat.zero }

/-- R20, R40: the recency list of an empty cache. -/
def recencyAscending : List (Fin 16) := List.finRange 16

/-- R40: the translation cache at power-on. -/
def Tc.powerOn : Tc where
  entries := Vector.replicate 16 none
  recency := recencyAscending
  lastServed := .commandUnit
  probe := ProbeResult.miss

/-- R169, R171: the command unit at power-on. -/
def CommandUnit.powerOn : CommandUnit where
  busy := false
  command := none
  channel := 0
  page := 0
  outcome := .ok

/-- R41, R42: the walk unit at power-on. -/
def WalkUnit.powerOn : WalkUnit where
  slots := Vector.replicate 2 none
  requests := []
  queue := []

/-- R100: the entries power-on leaves, valid or free with any tag, fresh mark clear (a free value, log entry 1). -/
def powerOnSets (epoch : Nat) : Vector ShadowSet 256 :=
  Vector.ofFn fun set => Vector.ofFn fun way =>
    (Config.powerOnTag epoch set way).map fun tag => { tag, fresh := false }

/-- R102, R120: the shadow tag store when `RESET#` is released. -/
def Shadow.powerOn (epoch : Nat) : Shadow where
  sets := powerOnSets epoch
  mode := .track
  wayMask := 0xFF
  state := .clearing
  pointer := 0

/-- R135: the invalidate queue at power-on. -/
def InvQueue.powerOn : InvQueue := { entries := [], waiters := [] }

/-- R148: the bus master at power-on; the number of the next identity is the model's own and runs on (log entry 6). -/
def BusMaster.powerOn (nextId : Nat) : BusMaster where
  cycles := []
  writeLast := 7
  readLast := 7
  nextId := nextId

/-- R156: the fault log at power-on. -/
def FaultLog.powerOn : FaultLog := { records := [], nextSeq := 0 }

/-- R157: the sticky flags at power-on. -/
def Sticky.powerOn : Sticky :=
  { fillWay := false, killFail := false, descIgnored := false, cmdOverrun := false, badWrite := false }

/-- R163: the causes, the CHANNEL_OFF set and the mask enables at power-on. -/
def Interrupts.powerOn : Interrupts where
  logOverflow := false
  coherence := false
  cmdDone := false
  sweepDone := false
  channelOff := 0
  mask := 0

/-- R84: the timebase at power-on. -/
def Timebase.powerOn : Timebase := { divisor := 0, count := 0 }

/-- R164: the window base the two straps select. -/
def strapBase (wsel1 wsel0 : Bool) : Word :=
  match wsel1, wsel0 with
  | false, false => 0xC8000000
  | false, true => 0xC8004000
  | true, false => 0xC8008000
  | true, true => 0xC800C000

end Sys2Proof.Machine
end

