-- ==== Sys2Proof/Machine/State.lean ====
section
/-!
DEFINITION. The state of the ID4208, the reasons a step can stop, and the state after reset.
-/

namespace Sys2Proof.Machine

/-- The whole block. INVENTORY.md lists every piece with the rule that names it.
`freeCount` (how many free values have been drawn) and `pending` (the commands that wait, first in first out) are the
model's own; so is the number in `bus.nextId`. -/
structure State where
  /-- `RESET#` is held low (R180). -/
  resetHeld : Bool
  /-- The window base the straps selected at the last release (R164). -/
  windowBase : Word
  bridge : BridgeState
  chans : Vector Channel 8
  tc : Tc
  walk : WalkUnit
  shadow : Shadow
  inv : InvQueue
  bus : BusMaster
  log : FaultLog
  sticky : Sticky
  ints : Interrupts
  cmd : CommandUnit
  time : Timebase
  freeCount : Nat
  pending : List Instr
  deriving DecidableEq, Repr

/-- Why a step would stop with a fault: never. The spec gives every command an effect in every state ("A window access
always completes without bus error", R164; "Every request that the front end takes receives one answer", R59), so this
type has no constructor and no claim can rest on a stop. -/
inductive Fault where
  deriving DecidableEq, Repr

/-- Why a step would be refused. -/
inductive Refusal where
  /-- Raised by an arm of `exec` for a command that has no meaning yet. No arm raises it: every command has its
  meaning. Safe: the machine stops where the hardware goes on. -/
  | notModelled (mnemonic : String)
  deriving DecidableEq, Repr

/-- The outcome of a command or of a step. -/
abbrev Result := Host.Outcome State Fault Refusal

/-- The machine right after reset: `RESET#` has been released with both straps low (log entry 4), every block at its
power-on value (R180, R181), no command waiting. -/
def State.reset : State where
  resetHeld := false
  windowBase := strapBase false false
  bridge := .running
  chans := Vector.replicate 8 Channel.powerOn
  tc := Tc.powerOn
  walk := WalkUnit.powerOn
  shadow := Shadow.powerOn 0
  inv := InvQueue.powerOn
  bus := BusMaster.powerOn 0
  log := FaultLog.powerOn
  sticky := Sticky.powerOn
  ints := Interrupts.powerOn
  cmd := CommandUnit.powerOn
  time := Timebase.powerOn
  freeCount := 1
  pending := []

end Sys2Proof.Machine
end

