-- ==== Sys2Proof/Machine/Operands.lean ====
section
/-!
DEFINITION. The fields of what the commands carry: channel addresses (R1), host addresses (R9, R12), map entry words
(R11, R179), byte positions in a line (R82), the bytes a write covers (R144), and the fields of the words written to
registers (R179).
-/

namespace Sys2Proof.Machine

/-! ## Channel addresses (R1) -/

/-- R1: the page number, bits 23..11 of a channel address. -/
def pageOf (addr : ChanAddr) : Page := addr.extractLsb' 11 13

/-- R1: the offset within the page, bits 10..0. -/
def offsetOf (addr : ChanAddr) : BitVec 11 := addr.extractLsb' 0 11

/-- R1: the byte within the line, bits 3..0. -/
def posOf (addr : ChanAddr) : BitVec 4 := addr.extractLsb' 0 4

/-- R1: the line start of a channel address: its lower 4 bits cleared. -/
def lineStartOf (addr : ChanAddr) : ChanAddr := addr &&& 0xFFFFF0

/-- R1: an access is aligned when its channel address is a multiple of its size. -/
def aligned (addr : ChanAddr) (size : Size) : Bool := addr.toNat % size.bytes == 0

/-! ## Host addresses and map entries (R9, R11, R12) -/

/-- 1.7: the line address of a host address: its lower 4 bits cleared. -/
def lineOf (addr : Word) : Word := addr &&& 0xFFFFFFF0

/-- R9: the entry address of a page: the stored map origin plus 4 times the page. -/
def entryAddress (origin : Word) (page : Page) : Word := origin + page.setWidth 32 * 4

/-- R12: the host address: FRAME as bits 31..11 above the offset. -/
def hostAddress (frame : Frame) (addr : ChanAddr) : Word := frame ++ offsetOf addr

/-- R12, R60: the translation an access carries once its permission check has passed. -/
def translationOf (x : Xlat) (addr : ChanAddr) : Translation where
  line := lineOf (hostAddress x.frame addr)
  pos := posOf addr
  coh := x.coh

/-- R11, R179 (10.8.1): the fields of a map entry word; `none` when VALID is clear, since no other field is then used.
Bits 10..4 play no part. -/
def mapEntry (w : Word) : Option Xlat :=
  if w.getLsbD 0 then
    some { frame := w.extractLsb' 11 21, rd := w.getLsbD 1, wr := w.getLsbD 2, coh := w.getLsbD 3 }
  else none

/-- R8: the three tests of a stored descriptor; the sum is formed without wrapping. -/
def Descriptor.legal (d : Descriptor) : Bool :=
  decide (1 ≤ d.mapLength.toNat) && decide (d.mapLength.toNat ≤ 8192) &&
  decide (1 ≤ d.quota.toNat) && decide (d.quota.toNat ≤ 16) &&
  decide (d.mapOrigin.toNat + 4 * d.mapLength.toNat ≤ 2 ^ 32)

/-! ## Bytes of a line (R12, R59, R82) -/

/-- R59: the bytes of a READ's DONE: `n` bytes of the line from position `pos`, in address order. -/
def bytesAt (d : LineData) (pos : BitVec 4) (n : Nat) : List Byte := (d.toList.drop pos.toNat).take n

/-- R82: a line's data with `bytes` placed from position `pos` on. -/
def placeBytes (d : LineData) (pos : BitVec 4) (bytes : List Byte) : LineData :=
  Vector.ofFn fun i =>
    if pos.toNat ≤ i.val then (bytes[i.val - pos.toNat]?).getD d[i] else d[i]

/-- R82: a byte mask with the `n` positions from `pos` on set. -/
def placeMask (m : Vector Bool 16) (pos : BitVec 4) (n : Nat) : Vector Bool 16 :=
  Vector.ofFn fun i => m[i] || (decide (pos.toNat ≤ i.val) && decide (i.val < pos.toNat + n))

/-- R82: all 16 mask positions are set. -/
def maskFull (m : Vector Bool 16) : Bool := m.toList.all id

/-! ## Requests (R58, R151) -/

/-- R151: the access kind and channel address a fault of this request's transaction carries; a SYNC has none. -/
def Request.access? : Request → Option (Access × ChanAddr × Size)
  | .read addr size => some (.read, addr, size)
  | .write addr data => some (.write, addr, data.size)
  | .sync => none

/-! ## The bytes a write covers (R9, R144) -/

/-- A write address phase as the bus carries it: byte `i` of `enables` stands for the byte at `addr + i`. -/
structure BusWrite where
  addr : Word
  enables : List Bool
  deriving DecidableEq, Repr

/-- R144: the addresses of the bytes a write covers. -/
def BusWrite.covered (w : BusWrite) : List Nat :=
  w.enables.zipIdx.filterMap fun p => if p.1 then some (w.addr.toNat + p.2) else none

/-- R9: a write overlaps a map entry when any byte it writes lies within the entry's 4 bytes. -/
def BusWrite.overlapsEntry (w : BusWrite) (entryAddr : Word) : Bool :=
  w.covered.any fun a => decide (entryAddr.toNat ≤ a) && decide (a < entryAddr.toNat + 4)

/-- R97, R98: a write covers at least one byte of a host line. -/
def BusWrite.touchesLine (w : BusWrite) (line : Word) : Bool :=
  w.covered.any fun a => decide (line.toNat ≤ a) && decide (a < line.toNat + 16)

/-- R88, R144: a line WRITE of the bridge covers the bytes whose mask positions are set. -/
def Buffer.busWrite (b : Buffer) : BusWrite := { addr := b.line, enables := b.mask.toList }

/-! ## Set and tag of a line (R101) -/

/-- R101: the set, bits 11..4 of the host line address. -/
def setOf (line : Word) : Fin 256 := (line.extractLsb' 4 8).toFin

/-- R101: the tag, bits 31..12 of the host line address. -/
def tagOf (line : Word) : BitVec 20 := line.extractLsb' 12 20

/-! ## Round robin (R23, R140) -/

/-- The cyclic `order` begun from the element after `last`, so that `last` itself comes at the end. -/
def roundFrom {α : Type} [DecidableEq α] (order : List α) (last : α) : List α :=
  (order.dropWhile (· ≠ last)).tail ++ order.takeWhile (· ≠ last) ++ [last]

/-- The channels in ascending order. -/
def allChans : List Chan := List.finRange 8

/-- R23: the cyclic order of the TC port's requesters. -/
def portOrder : List PortUser := allChans.map PortUser.channel ++ [.commandUnit]

/-- One order of the elements of `l`, picked by the number `n`: every order is picked by some `n`. -/
def pickOrder {α : Type} (n : Nat) : (fuel : Nat) → List α → List α
  | 0, l => l
  | _ + 1, [] => []
  | fuel + 1, a :: l =>
    let k := n % (l.length + 1)
    ((a :: l)[k]?).getD a :: pickOrder (n / (l.length + 1)) fuel ((a :: l).eraseIdx k)

/-! ## Fields of written words (R179) -/

/-- R3: the origin stored for a written word: bits 31..6 kept, bits 5..0 zero. -/
def storedOrigin (value : Word) : Word := value &&& 0xFFFFFFC0

/-- R3, R4, R5, R179: the descriptor after a taken 4-byte write to one of its registers. -/
def Descriptor.write (d : Descriptor) (reg : DescReg) (value : Word) : Descriptor :=
  match reg with
  | .mapOrigin => { d with mapOrigin := storedOrigin value }
  | .mapLength => { d with mapLength := value.extractLsb' 0 14 }
  | .channelSettings =>
    { d with
      quota := value.extractLsb' 0 5
      idleTimeout := value.extractLsb' 8 8
      readAhead := value.getLsbD 16 }

/-- R179 (10.8.3), R166: the mode a two-bit field names; 3 names none. -/
def modeOfBits (m : BitVec 2) : Option ShadowMode :=
  if m = 0 then some .off else if m = 1 then some .track else if m = 2 then some .broadcast else none

/-- R168: the command a code names; 0 and 10..15 name none. -/
def commandOfCode (code : BitVec 4) : Option CommandName :=
  match code.toNat with
  | 1 => some .chEnable
  | 2 => some .chDisable
  | 3 => some .chResume
  | 4 => some .chAbort
  | 5 => some .xlatFlushPage
  | 6 => some .xlatFlushChannel
  | 7 => some .xlatFlushAll
  | 8 => some .xlatProbe
  | 9 => some .tagsClear
  | _ => none

/-- R168: the commands that use their channel operand. -/
def CommandName.usesChannel : CommandName → Bool
  | .xlatFlushAll | .tagsClear => false
  | .chEnable | .chDisable | .chResume | .chAbort | .xlatFlushPage | .xlatFlushChannel | .xlatProbe => true

/-- R168: the commands that use their page operand. -/
def CommandName.usesPage : CommandName → Bool
  | .xlatFlushPage | .xlatProbe => true
  | .chEnable | .chDisable | .chResume | .chAbort | .xlatFlushChannel | .xlatFlushAll | .tagsClear => false

/-- R170: the operands a command uses are in range. -/
def CommandName.operandsOk (n : CommandName) (channel : BitVec 4) (page : BitVec 14) : Bool :=
  (!n.usesChannel || decide (channel.toNat < 8)) && (!n.usesPage || decide (page.toNat < 8192))

/-- The channel a channel operand below 8 names. -/
def chanOfOperand (channel : BitVec 4) : Chan := (channel.extractLsb' 0 3).toFin

/-- The page a page operand below 8192 names. -/
def pageOfOperand (page : BitVec 14) : Page := page.extractLsb' 0 13

end Sys2Proof.Machine
end

