-- ==== Sys2Proof/Machine/Flags.lean ====
section
/-!
DEFINITION. Sticky flags, interrupt causes, `INT#`, and how happenings and the host set and clear them (Chapter 9).
-/

namespace Sys2Proof.Machine

/-! ## Causes and the line -/

/-- R158: FAULT_PENDING is set exactly while the log holds at least one record. -/
def State.faultPending (s : State) : Bool := !s.log.records.isEmpty

/-- R160: the CHANNEL_OFF cause is set while its channel set is not empty. -/
def State.channelOffCause (s : State) : Bool := s.ints.channelOff != 0

/-- A one-bit field of a register word at bit position `lsb`. -/
def bitAt (b : Bool) (lsb : Nat) : Word := if b then 1#32 <<< lsb else 0#32

/-- R158, R179: the six interrupt causes at their bits of INT_CAUSE. -/
def State.causeBits (s : State) : BitVec 6 :=
  (bitAt s.faultPending 0 ||| bitAt s.ints.logOverflow 1 ||| bitAt s.ints.coherence 2 ||| bitAt s.ints.cmdDone 3
    ||| bitAt s.channelOffCause 4 ||| bitAt s.ints.sweepDone 5).setWidth 6

/-- R162: `INT#` is asserted while at least one cause is set with its enable on; while `RESET#` is held it is released. -/
def State.intAsserted (s : State) : Bool := !s.resetHeld && (s.causeBits &&& s.ints.mask) != 0

/-! ## Setting -/

/-- R157, R159: FILL_WAY is set, and COHERENCE raised. -/
def State.raiseFillWay (s : State) : State :=
  { s with sticky := { s.sticky with fillWay := true }, ints := { s.ints with coherence := true } }

/-- R131, R159: KILL_FAIL is set, and COHERENCE raised. -/
def State.raiseKillFail (s : State) : State :=
  { s with sticky := { s.sticky with killFail := true }, ints := { s.ints with coherence := true } }

/-- R6, R157: DESC_IGNORED is set; it raises no cause. -/
def State.raiseDescIgnored (s : State) : State := { s with sticky := { s.sticky with descIgnored := true } }

/-- R157, R169: CMD_OVERRUN is set; it raises no cause. -/
def State.raiseCmdOverrun (s : State) : State := { s with sticky := { s.sticky with cmdOverrun := true } }

/-- R157, R166: BAD_WRITE is set; it raises no cause. -/
def State.raiseBadWrite (s : State) : State := { s with sticky := { s.sticky with badWrite := true } }

/-- R160: a channel joins the CHANNEL_OFF set; a channel in it stays there once. -/
def State.raiseChannelOff (s : State) (c : Chan) : State :=
  { s with ints := { s.ints with channelOff := s.ints.channelOff ||| (1#8 <<< c.val) } }

/-- R118, R158: SWEEP_DONE is raised. -/
def State.raiseSweepDone (s : State) : State := { s with ints := { s.ints with sweepDone := true } }

/-! ## Clearing by the host -/

/-- R157: a write to GLOBAL_STATUS clears each flag written with 1; no cause changes. -/
def State.clearStatus (s : State) (value : Word) : State :=
  { s with
    sticky :=
      { fillWay := s.sticky.fillWay && !value.getLsbD 0
        killFail := s.sticky.killFail && !value.getLsbD 1
        descIgnored := s.sticky.descIgnored && !value.getLsbD 2
        cmdOverrun := s.sticky.cmdOverrun && !value.getLsbD 3
        badWrite := s.sticky.badWrite && !value.getLsbD 4 } }

/-- R161: a write to INT_CAUSE clears each of LOG_OVERFLOW, COHERENCE, CMD_DONE and SWEEP_DONE written with 1;
FAULT_PENDING and CHANNEL_OFF ignore it. -/
def State.clearCauses (s : State) (value : Word) : State :=
  { s with
    ints :=
      { s.ints with
        logOverflow := s.ints.logOverflow && !value.getLsbD 1
        coherence := s.ints.coherence && !value.getLsbD 2
        cmdDone := s.ints.cmdDone && !value.getLsbD 3
        sweepDone := s.ints.sweepDone && !value.getLsbD 5 } }

/-- R160: a write to CHANNEL_OFF_SET removes each channel written with 1. -/
def State.clearChannelOff (s : State) (value : Word) : State :=
  { s with ints := { s.ints with channelOff := s.ints.channelOff &&& ~~~(value.setWidth 8) } }

/-- R162: a write to INT_MASK sets the six enables. -/
def State.writeMask (s : State) (value : Word) : State :=
  { s with ints := { s.ints with mask := value.setWidth 6 } }

end Sys2Proof.Machine
end

