-- ==== Sys2Proof/Machine/Cache.lean ====
section
/-!
DEFINITION. The translation cache as a structure of its own (Chapter 2): lookup, recency, victim choice, install, drop,
probe, and the round-robin of its port.
-/

namespace Sys2Proof.Machine

/-- R25: the valid entry that carries both the channel and the page, with its entry number. -/
def Tc.find (t : Tc) (c : Chan) (p : Page) : Option (Fin 16 × TcEntry) :=
  (List.finRange 16).findSome? fun i =>
    match t.entries[i] with
    | some e => if e.chan = c ∧ e.page = p then some (i, e) else none
    | none => none

/-- R20, R26: the entry moves to the most-recent end; the others keep their order. -/
def Tc.touch (t : Tc) (i : Fin 16) : Tc := { t with recency := i :: t.recency.erase i }

/-- The entry at `i` is valid and belongs to channel `c`. -/
def Tc.belongs (t : Tc) (c : Chan) (i : Fin 16) : Bool :=
  match t.entries[i] with
  | some e => e.chan == c
  | none => false

/-- R21: the held count of a channel. -/
def Tc.heldCount (t : Tc) (c : Chan) : Nat := (List.finRange 16).countP (t.belongs c)

/-- R20: the least-recent entry of a channel. -/
def Tc.leastRecentOf (t : Tc) (c : Chan) : Option (Fin 16) := t.recency.reverse.find? (t.belongs c)

/-- R20: the least-recent entry of the whole TC. -/
def Tc.leastRecent (t : Tc) : Option (Fin 16) := t.recency.reverse.find? fun i => t.entries[i].isSome

/-- R30: the lowest-numbered free entry. -/
def Tc.lowestFree (t : Tc) : Option (Fin 16) := (List.finRange 16).find? fun i => t.entries[i].isNone

/-- R30: the victim of an install for channel `c` with the given quota, by the first of the three steps that applies.
(The final 0 is never reached: an entry is free or valid, and every valid entry is in the recency list.) -/
def Tc.victim (t : Tc) (c : Chan) (quota : Nat) : Fin 16 :=
  let own := if t.heldCount c = quota then t.leastRecentOf c else none
  ((own.or t.lowestFree).or t.leastRecent).getD 0

/-- R29: where an install goes: the entry that already carries the channel and page, else the victim. -/
def Tc.place (t : Tc) (e : TcEntry) (quota : Nat) : Fin 16 :=
  match t.find e.chan e.page with
  | some (i, _) => i
  | none => t.victim e.chan quota

/-- R29: an install fills every field of its entry at once and moves it to the most-recent end. -/
def Tc.install (t : Tc) (e : TcEntry) (quota : Nat) : Tc :=
  let i := t.place e quota
  ({ t with entries := t.entries.set i (some e) } : Tc).touch i

/-- R19, R20: the drop of every valid entry that satisfies `p`: the valid entries left keep their order, and the free
entries follow in ascending entry number. -/
def Tc.dropWhere (t : Tc) (p : TcEntry → Bool) : Tc :=
  let entries := t.entries.map fun e => e.filter fun x => !p x
  { t with
    entries := entries
    recency := t.recency.filter (fun i => entries[i].isSome)
      ++ (List.finRange 16).filter (fun i => entries[i].isNone) }

/-- R36, R40: all sixteen entries dropped, the recency list ascending. -/
def Tc.dropAll (t : Tc) : Tc :=
  { t with entries := Vector.replicate 16 none, recency := recencyAscending }

/-- R39: the result of a probe: the comparison of a lookup, with no move in the recency list. -/
def Tc.probeFor (t : Tc) (c : Chan) (p : Page) : ProbeResult :=
  match t.find c p with
  | some (i, e) => { hit := true, entry := i, xlat := e.xlat }
  | none => ProbeResult.miss

end Sys2Proof.Machine
end

