-- ==== Sys2Proof/Machine/ShadowStore.lean ====
section
/-!
DEFINITION. The shadow tag store as a structure of its own (Chapter 6): fills, the lookup at an acknowledge, the sweep.
-/

namespace Sys2Proof.Machine

/-- R106: way `w` is enabled. -/
def Shadow.enabled (sh : Shadow) (w : Way) : Bool := sh.wayMask.getLsbD w.val

/-- R104: under TRACK and BROADCAST fills are looked at; under OFF they are ignored. -/
def ShadowMode.tracksFills : ShadowMode → Bool
  | .off => false
  | .track | .broadcast => true

/-- R105: a recorded fill sets the fresh mark when the store is CLEARING and the set is at or above the pointer. -/
def Shadow.marksFresh (sh : Shadow) (set : Fin 256) : Bool :=
  sh.state == .clearing && decide (sh.pointer ≤ set.val)

/-- R104: the fill recorded at its set and way, over whatever the entry held. -/
def Shadow.record (sh : Shadow) (line : Word) (w : Way) : Shadow :=
  let set := setOf line
  let e : ShadowEntry := { tag := tagOf line, fresh := sh.marksFresh set }
  { sh with sets := sh.sets.set set (sh.sets[set].set w (some e)) }

/-- R110: an entry matches when it is valid, its way is enabled and its tag is equal; the fresh mark plays no part. -/
def Shadow.matchesAt (sh : Shadow) (line : Word) (w : Way) : Bool :=
  sh.enabled w &&
    match sh.sets[setOf line][w] with
    | some e => e.tag == tagOf line
    | none => false

/-- R110: some enabled valid way of the line's set holds the line. -/
def Shadow.holds (sh : Shadow) (line : Word) : Bool := (List.finRange 8).any (sh.matchesAt line)

/-- R110: every matching entry of the line's set cleared, mark included. -/
def Shadow.clearMatches (sh : Shadow) (line : Word) : Shadow :=
  let set := setOf line
  { sh with
    sets := sh.sets.set set (Vector.ofFn fun w => if sh.matchesAt line w then none else sh.sets[set][w]) }

/-- R109 to R114: whether the lookup's result is queue; `pendingKill` says that the invalidate queue holds an entry for
the line (R111, R128). -/
def Shadow.owesKill (sh : Shadow) (line : Word) (pendingKill : Bool) : Bool :=
  match sh.mode with
  | .off => false
  | .track => sh.holds line || pendingKill
  | .broadcast => true

/-- R110, R113, R114: what the lookup leaves of the store: only a TRACK lookup compares and clears. -/
def Shadow.afterLookup (sh : Shadow) (line : Word) : Shadow :=
  match sh.mode with
  | .track => sh.clearMatches line
  | .off | .broadcast => sh

/-- R117: what a sweep step leaves of an entry: an unmarked one is cleared, a marked one stays without its mark. -/
def sweepEntry (e : Option ShadowEntry) : Option ShadowEntry :=
  match e with
  | some x => if x.fresh then some { x with fresh := false } else none
  | none => none

/-- R116: the sweep begins from set 0; no entry changes. -/
def Shadow.startSweep (sh : Shadow) : Shadow := { sh with state := .clearing, pointer := 0 }

/-- R117, R118: the step at the set the pointer names; the step at set 255 ends the sweep. -/
def Shadow.sweepStep (sh : Shadow) : Shadow :=
  if h : sh.pointer < 256 then
    { sh with
      sets := sh.sets.set sh.pointer (sh.sets[sh.pointer].map sweepEntry)
      state := if sh.pointer = 255 then .idle else sh.state
      pointer := sh.pointer + 1 }
  else sh

end Sys2Proof.Machine
end

