-- ==== Sys2Proof/Machine/Ops.lean ====
section
/-!
DEFINITION. The operations the commands share: the channels' fields, answers, the fault log, invalidate places, the
flush of a buffer, a fault of a transaction, and the tests that end a SYNC, a drain and an abort.
-/

namespace Sys2Proof.Machine

/-! ## Channels -/

/-- The channel numbered `c`. -/
def State.chan (s : State) (c : Chan) : Channel := s.chans[c]

/-- The state with channel `c` replaced. -/
def State.setChan (s : State) (c : Chan) (x : Channel) : State := { s with chans := s.chans.set c x }

/-- The state with channel `c` changed by `f`. -/
def State.modChan (s : State) (c : Chan) (f : Channel → Channel) : State := s.setChan c (f (s.chan c))

/-- The state with every channel changed by `f`. -/
def State.mapChans (s : State) (f : Chan → Channel → Channel) : State :=
  { s with chans := Vector.ofFn fun c => f c (s.chan c) }

/-- The state with the coalescing buffer of channel `c` replaced. -/
def State.setBuffer (s : State) (c : Chan) (b : Buffer) : State := s.modChan c fun ch => { ch with buffer := b }

/-- R59: the answer ends the request and removes the pending transaction, if the request was one. -/
def State.answer (s : State) (c : Chan) (a : Answer) : State :=
  s.modChan c fun ch => { ch with txn := none, answers := ch.answers ++ [a] }

/-! ## The fault log (R150 to R153) -/

/-- R152, R153: a fault is taken: it consumes a sequence number; it is recorded at the tail, or dropped with
LOG_OVERFLOW when the log holds 8 records. -/
def State.takeFault (s : State) (c : Chan) (access : Access) (addr : ChanAddr) (cause : Cause) : State :=
  if s.log.records.length < 8 then
    { s with
      log :=
        { records := s.log.records ++ [{ seq := s.log.nextSeq, chan := c, access, addr, cause }]
          nextSeq := s.log.nextSeq + 1 } }
  else
    { s with
      log := { s.log with nextSeq := s.log.nextSeq + 1 }
      ints := { s.ints with logOverflow := true } }

/-! ## Invalidate places (R122 to R126) -/

/-- R122: the outstanding reservations, one for each buffer that holds a place. -/
def State.reservations (s : State) : Nat := s.chans.toList.countP fun ch => ch.buffer.reservation == .held

/-- R122: the places in use: queued entries plus reservations. -/
def State.placesInUse (s : State) : Nat := s.inv.entries.length + s.reservations

/-- R125: a place that has become free goes to the head waiter, whose reservation becomes held (its line write is then
requested: `Buffer.requestsWrite`); with no waiter it stays free. -/
def State.grantPlace (s : State) : State :=
  match s.inv.waiters with
  | [] => s
  | c :: rest =>
    if s.placesInUse < 8 then
      let s := { s with inv := { s.inv with waiters := rest } }
      s.setBuffer c { (s.chan c).buffer with reservation := .held }
    else s

/-- R126: the reservation of channel `c` ends; its place is no longer a reservation's. -/
def State.endReservation (s : State) (c : Chan) : State :=
  s.setBuffer c { (s.chan c).buffer with reservation := .none }

/-- R125, R126: the reservation of channel `c` is released, and its place frees. -/
def State.releaseReservation (s : State) (c : Chan) : State := (s.endReservation c).grantPlace

/-- R127: an unissued queued entry names the line. -/
def State.hasUnissued (s : State) (line : Word) : Bool :=
  s.inv.entries.any fun e => e.line == line && !e.issued

/-- R111, R128: a queued entry, issued or not, names the line. -/
def State.hasEntryFor (s : State) (line : Word) : Bool := s.inv.entries.any fun e => e.line == line

/-- R127: the writer joins the channel set of an entry; a channel in the set stays there once. -/
def InvEntry.add (e : InvEntry) (c : Chan) : InvEntry :=
  if c ∈ e.chans then e else { e with chans := e.chans ++ [c] }

/-- R127: the result queue at an acknowledge of channel `c`: merge into the unissued entry of the line and release the
reservation, or append a new entry in the reservation's place. -/
def State.queueInvalidate (s : State) (c : Chan) (line : Word) : State :=
  if s.hasUnissued line then
    let merged := s.inv.entries.map fun e => if e.line = line ∧ e.issued = false then e.add c else e
    ({ s with inv := { s.inv with entries := merged } } : State).releaseReservation c
  else
    ({ s with
        inv := { s.inv with entries := s.inv.entries ++ [{ line, chans := [c], issued := false }] } } : State)
      |>.endReservation c

/-- R132: no queued entry, issued or not, has the channel in its set. -/
def State.noEntryOf (s : State) (c : Chan) : Bool := s.inv.entries.all fun e => !e.chans.contains c

/-! ## The flush of a buffer (R83, R87, R123) -/

/-- R87: a buffer needs a reservation when COH is set and the mode then in force is TRACK or BROADCAST. -/
def needsReservation (mode : ShadowMode) (coh : Bool) : Bool := coh && mode.tracksFills

/-- R83, R87, R123: a flush cause. A FILLING buffer goes to PENDING, its timer stops at 0, and it makes its reservation
decision: none needed, granted, or waiting at the tail of the waiters. A buffer in any other state is not changed. -/
def State.flushBuffer (s : State) (c : Chan) : State :=
  let b := (s.chan c).buffer
  if b.state = .filling then
    let closed := { b with state := .pending, timer := 0 }
    if needsReservation s.shadow.mode b.coh then
      if s.placesInUse < 8 then s.setBuffer c { closed with reservation := .held }
      else
        ({ s with inv := { s.inv with waiters := s.inv.waiters ++ [c] } } : State).setBuffer c
          { closed with reservation := .waiting }
    else s.setBuffer c { closed with reservation := .none }
  else s

/-- R88, R177: a PENDING buffer whose reservation is settled has its line write requested. -/
def Buffer.requestsWrite (b : Buffer) : Bool := b.state == .pending && b.reservation != .waiting

/-! ## Faults of a channel (R73 to R75) -/

/-- R73, R74: an ACTIVE channel enters FAULTED: a FILLING buffer goes to PENDING and the read-ahead line is dropped. In
any other state the channel keeps its state (R75). -/
def State.enterFaulted (s : State) (c : Chan) : State :=
  if (s.chan c).state = .active then
    (s.flushBuffer c).modChan c fun ch => { ch with state := .faulted, readAhead := none }
  else s

/-- R73, R75: a fault of the transaction: answered and removed, handed to the log, and the channel moved or kept. -/
def State.failTransaction (s : State) (c : Chan) (access : Access) (addr : ChanAddr) (cause : Cause)
    (a : Answer) : State :=
  ((s.answer c a).takeFault c access addr cause).enterFaulted c

/-! ## SYNC, drain and abort (R63, R69, R71) -/

/-- R63, R132: the condition a SYNC waits for. -/
def State.syncReady (s : State) (c : Chan) : Bool :=
  let b := (s.chan c).buffer
  b.state == .empty && b.reservation != .held && s.noEntryOf c

/-- R69, R71: a walk slot holds the channel. -/
def State.inSlot (s : State) (c : Chan) : Bool :=
  s.walk.slots.toList.any fun w =>
    match w with
    | some w => w.chan == c
    | none => false

/-- R69: the channel stands in the walk wait queue. -/
def State.inWalkQueue (s : State) (c : Chan) : Bool := s.walk.queue.any fun w => w.chan == c

/-- R69: the five parts of drain completion. -/
def State.drainReady (s : State) (c : Chan) : Bool :=
  let ch := s.chan c
  ch.txn.isNone && ch.buffer.state == .empty && !s.inWalkQueue c && !s.inSlot c
    && ch.buffer.reservation != .held && s.noEntryOf c

/-- R71: the three parts of abort completion. -/
def State.abortReady (s : State) (c : Chan) : Bool :=
  let ch := s.chan c
  !s.inSlot c && (ch.lineRead.all fun r => !r.issued) && ch.buffer.state != .writing

/-- R38, R69, R71, R160: the channel reaches DISABLED from DRAINING or ABORTING: its translation cache entries are
dropped and CHANNEL_OFF is raised for it. -/
def State.reachDisabled (s : State) (c : Chan) : State :=
  let s := s.modChan c fun ch => { ch with state := .disabled }
  ({ s with tc := s.tc.dropWhere fun e => e.chan == c } : State).raiseChannelOff c

/-- R63, R64: a waiting SYNC whose condition holds is answered DONE, or FAULT when its write error seen field is set. -/
def State.trySync (s : State) (c : Chan) : State :=
  match (s.chan c).txn with
  | some t =>
    if t.request = .sync ∧ s.syncReady c = true then
      s.answer c (if t.writeErrorSeen then .fault else .done [])
    else s
  | none => s

/-- R69: a DRAINING channel whose condition holds reaches DISABLED. -/
def State.tryDrain (s : State) (c : Chan) : State :=
  if (s.chan c).state = .draining ∧ s.drainReady c = true then s.reachDisabled c else s

/-- R71: an ABORTING channel whose condition holds reaches DISABLED. -/
def State.tryAbort (s : State) (c : Chan) : State :=
  if (s.chan c).state = .aborting ∧ s.abortReady c = true then s.reachDisabled c else s

/-- R63, R65, R69, R71: the conditions of channel `c` are tested, SYNC first, in the happening that may have made one of
them true. -/
def State.settle (s : State) (c : Chan) : State := ((s.trySync c).tryDrain c).tryAbort c

/-! ## `RESET#` -/

/-- R180: while `RESET#` is held no happening changes any state of the part. -/
def State.unlessReset (s : State) (f : State → State) : State := if s.resetHeld then s else f s

end Sys2Proof.Machine
end

