-- ==== Sys2Proof/Machine/Walks.lean ====
section
/-!
DEFINITION. The walk unit (Chapter 3): slots, the wait queue, stale and discard marks.
-/

namespace Sys2Proof.Machine

/-- R43: the slot a miss takes: slot 0 when it is idle, else slot 1 when that is. -/
def WalkUnit.idleSlot (w : WalkUnit) : Option (Fin 2) := (List.finRange 2).find? fun i => w.slots[i].isNone

/-- The slot that holds a channel's walk (R42: at most one does). -/
def WalkUnit.slotOf (w : WalkUnit) (c : Chan) : Option (Fin 2) :=
  (List.finRange 2).find? fun i =>
    match w.slots[i] with
    | some x => x.chan == c
    | none => false

/-- R43, R49: slot `i` is taken by a channel's walk of a page: its entry address is formed from the channel's stored map
origin, its flags are clear, and its WALK read is requested, behind the requests that already stand (R44). -/
def State.takeSlot (s : State) (i : Fin 2) (c : Chan) (p : Page) : State :=
  let w : Walk :=
    { chan := c, page := p, entryAddr := entryAddress (s.chan c).desc.mapOrigin p
      issued := false, stale := false, discard := false }
  { s with walk := { s.walk with slots := s.walk.slots.set i (some w), requests := s.walk.requests ++ [i] } }

/-- R43: a miss takes an idle slot, or joins the tail of the walk wait queue. -/
def State.startWalk (s : State) (c : Chan) (p : Page) : State :=
  match s.walk.idleSlot with
  | some i => s.takeSlot i c p
  | none => { s with walk := { s.walk with queue := s.walk.queue ++ [{ chan := c, page := p }] } }

/-- R49: slot `i` frees: it becomes idle, or the head of the walk wait queue takes it. -/
def State.freeSlot (s : State) (i : Fin 2) : State :=
  let s := { s with walk := { s.walk with slots := s.walk.slots.set i none } }
  match s.walk.queue with
  | [] => s
  | w :: rest => ({ s with walk := { s.walk with queue := rest } } : State).takeSlot i w.chan w.page

/-- The walk in slot `i` changed by `f`. -/
def WalkUnit.modSlot (w : WalkUnit) (i : Fin 2) (f : Walk → Walk) : WalkUnit :=
  { w with slots := w.slots.set i (w.slots[i].map f) }

/-- R50, R51: every busy slot that is issued and satisfies `p` is stale-marked. -/
def WalkUnit.markStale (w : WalkUnit) (p : Walk → Bool) : WalkUnit :=
  { w with
    slots := w.slots.map fun x => x.map fun x => if x.issued && p x then { x with stale := true } else x }

/-- R54: the walk of channel `c` at CH_ABORT: its place in the queue is removed; an issued slot is discard-marked; an
unissued one has its request withdrawn and frees at once. -/
def State.abortWalk (s : State) (c : Chan) : State :=
  let s := { s with walk := { s.walk with queue := s.walk.queue.filter fun w => w.chan ≠ c } }
  match s.walk.slotOf c with
  | none => s
  | some i =>
    if (s.walk.slots[i].any fun x => x.issued) then
      { s with walk := s.walk.modSlot i fun x => { x with discard := true } }
    else
      ({ s with walk := { s.walk with requests := s.walk.requests.filter fun j => j ≠ i } } : State).freeSlot i

/-- R57: the walk unit at a soft reset: the queue empty, issued slots discard-marked, the others idle. -/
def WalkUnit.softReset (w : WalkUnit) : WalkUnit where
  slots := w.slots.map fun x => (x.filter fun x => x.issued).map fun x => { x with discard := true }
  requests := []
  queue := []

end Sys2Proof.Machine
end

