-- ==== Sys2Proof/Machine/Traffic.lean ====
section
/-!
DEFINITION. The path of an access after its translation is in hand (Chapters 1, 4 and 5): the permission check, the
coalescing buffer and the read path, and the completions of line reads and line writes.
-/

namespace Sys2Proof.Machine

/-! ## Waiting and serving -/

/-- R62: the transaction waits for its buffer, carrying its translation (R60). -/
def State.waitForBuffer (s : State) (c : Chan) (tr : Translation) : State :=
  s.modChan c fun ch =>
    { ch with txn := ch.txn.map fun t => { t with phase := .waitBuffer, translation := some tr } }

/-- R81: what a buffer is opened as by a WRITE that finds it EMPTY. -/
def Buffer.opened (tr : Translation) (addr : ChanAddr) : Buffer :=
  { Buffer.cleared with state := .filling, line := tr.line, lineStart := lineStartOf addr }

/-- R82: a WRITE's bytes merged into a buffer; `timer` is what the idle timer is left at. -/
def Buffer.merge (b : Buffer) (tr : Translation) (data : WriteData) (timer : Nat) : Buffer :=
  { b with
    data := placeBytes b.data tr.pos data.toList
    mask := placeMask b.mask tr.pos data.size.bytes
    coh := b.coh || tr.coh
    timer := timer }

/-- R81, R82: the merge of a WRITE into an EMPTY buffer, which it opens, or a FILLING one of its line. The WRITE is
answered DONE. The idle timer is loaded if the channel is ACTIVE. The buffer then goes to PENDING if its mask is full,
or if the channel is not ACTIVE (R76). -/
def State.mergeWrite (s : State) (c : Chan) (addr : ChanAddr) (data : WriteData) (tr : Translation) : State :=
  let ch := s.chan c
  let b := if ch.buffer.state = .empty then Buffer.opened tr addr else ch.buffer
  let b := b.merge tr data (if ch.state = .active then ch.desc.idleTimeout.toNat else b.timer)
  let s := (s.setBuffer c b).answer c (.done [])
  if maskFull b.mask ∨ ch.state ≠ .active then s.flushBuffer c else s

/-- R62, R81: a WRITE that has passed its permission check reaches its buffer. -/
def State.placeWrite (s : State) (c : Chan) (addr : ChanAddr) (data : WriteData) (tr : Translation) : State :=
  let b := (s.chan c).buffer
  match b.state with
  | .empty => s.mergeWrite c addr data tr
  | .filling =>
    if b.line = tr.line then s.mergeWrite c addr data tr else (s.flushBuffer c).waitForBuffer c tr
  | .pending | .writing => s.waitForBuffer c tr

/-- R94 step 3: a line read is requested for the READ, which enters WAIT_READ. -/
def State.requestLineRead (s : State) (c : Chan) (tr : Translation) : State :=
  s.modChan c fun ch =>
    { ch with
      lineRead := some { line := tr.line, issued := false, stalePending := false, discard := false }
      txn := ch.txn.map fun t => { t with phase := .waitRead, translation := some tr } }

/-- R94 step 2: the read-ahead line may answer: the channel ACTIVE, read-ahead enabled, the line valid for the READ's. -/
def Channel.readAheadFor (ch : Channel) (line : Word) : Option LineData :=
  if ch.state = .active ∧ ch.desc.readAhead = true then
    match ch.readAhead with
    | some l => if l.line = line then some l.data else none
    | none => none
  else none

/-- R94 steps 2 and 3: a READ is answered from the read-ahead line, or its line read is requested. -/
def State.serveRead (s : State) (c : Chan) (size : Size) (tr : Translation) : State :=
  match (s.chan c).readAheadFor tr.line with
  | some d => s.answer c (.done (bytesAt d tr.pos size.bytes))
  | none => s.requestLineRead c tr

/-- R62, R94: a READ that has passed its permission check reaches the read path: it waits for its own channel's buffer
when that holds its line (a FILLING one is flushed first). -/
def State.placeRead (s : State) (c : Chan) (size : Size) (tr : Translation) : State :=
  let b := (s.chan c).buffer
  if b.state ≠ .empty ∧ b.line = tr.line then (s.flushBuffer c).waitForBuffer c tr else s.serveRead c size tr

/-- R17, R26, R31: the permission check on a translation in hand, and on a pass the next step of the access. -/
def State.checkRights (s : State) (c : Chan) (x : Xlat) : State :=
  match (s.chan c).txn with
  | none => s
  | some t =>
    match t.request with
    | .read addr size =>
      if x.rd then s.placeRead c size (translationOf x addr)
      else s.failTransaction c .read addr .noRead .fault
    | .write addr data =>
      if x.wr then s.placeWrite c addr data (translationOf x addr)
      else s.failTransaction c .write addr .noWrite .fault
    | .sync => s

/-- R47, R48: the pending transaction faults with the cause the walk found. -/
def State.failWalk (s : State) (c : Chan) (cause : Cause) : State :=
  match (s.chan c).txn with
  | none => s
  | some t =>
    match t.request.access? with
    | some (access, addr, _) => s.failTransaction c access addr cause .fault
    | none => s

/-! ## Data returns and acknowledges -/

/-- R45: the data return of the read of slot `i`, by the slot's discard and stale flags, the bus error and VALID, in that
order. (A slot that is not issued has no read outstanding, R44: nothing returns for it.) -/
def State.walkReturn (s : State) (i : Fin 2) (result : WalkResult) : State :=
  match s.walk.slots[i] with
  | none => s
  | some w =>
    if w.issued = false then s
    else if w.discard then (s.freeSlot i).settle w.chan
    else if w.stale then
      let walk := s.walk.modSlot i fun x => { x with issued := false, stale := false }
      { s with walk := { walk with requests := walk.requests ++ [i] } }
    else
      match result with
      | .busError => ((s.freeSlot i).failWalk w.chan .mapBusErr).settle w.chan
      | .word word =>
        match mapEntry word with
        | none => ((s.freeSlot i).failWalk w.chan .notValid).settle w.chan
        | some x =>
          let quota := (s.chan w.chan).desc.quota.toNat
          let s := { s with tc := s.tc.install { chan := w.chan, page := w.page, xlat := x } quota }
          ((s.freeSlot i).checkRights w.chan x).settle w.chan

/-- R96 step 3: the answer of a READ from the returned line. -/
def State.answerRead (s : State) (c : Chan) (d : LineData) : State :=
  match (s.chan c).txn with
  | some { request := .read _ size, translation := some tr, .. } =>
    s.answer c (.done (bytesAt d tr.pos size.bytes))
  | _ => s

/-- R96: the line is retained when the channel is ACTIVE, read-ahead is enabled and stale-pending is clear. -/
def Channel.retain (ch : Channel) (r : LineRead) (d : LineData) : Option HeldLine :=
  if ch.state = .active ∧ ch.desc.readAhead = true ∧ r.stalePending = false then some { line := r.line, data := d }
  else ch.readAhead

/-- R96: the data return of a channel's line read, by discard, bus error and otherwise, in that order. (A record that is
not issued has no read outstanding, R95.) -/
def State.lineReadReturn (s : State) (c : Chan) (result : LineResult) : State :=
  match (s.chan c).lineRead with
  | none => s
  | some r =>
    let cleared := s.modChan c fun ch => { ch with lineRead := none }
    if r.issued = false then s
    else if r.discard then cleared.settle c
    else
      match result with
      | .busError =>
        match (s.chan c).txn with
        | some { request := .read addr _, .. } =>
          (cleared.failTransaction c .read addr .readBusErr .dataError).settle c
        | _ => cleared.settle c
      | .line d =>
        ((cleared.modChan c fun ch => { ch with readAhead := ch.retain r d }).answerRead c d).settle c

/-- R64: the pending SYNC, if there is one, has its write error seen field set. -/
def Channel.markWriteError (ch : Channel) : Channel :=
  { ch with
    txn := ch.txn.map fun t => if t.request = .sync then { t with writeErrorSeen := true } else t }

/-- R74, R90: the bus error of a line write: WRITE_BUS_ERR is handed to the log at the buffer's line start, an ACTIVE
channel enters FAULTED, and a pending SYNC is marked. -/
def State.writeBusError (s : State) (c : Chan) : State :=
  ((s.takeFault c .write (s.chan c).buffer.lineStart .writeBusErr).enterFaulted c).modChan c Channel.markWriteError

/-- R89 step 2, R109: a reservation held at the acknowledge is resolved by the shadow lookup: queued or released. A
buffer that holds none makes no lookup. -/
def State.resolveReservation (s : State) (c : Chan) : State :=
  let b := (s.chan c).buffer
  if b.reservation = .held then
    let owes := s.shadow.owesKill b.line (s.hasEntryFor b.line)
    let s := { s with shadow := s.shadow.afterLookup b.line }
    if owes then s.queueInvalidate c b.line else s.releaseReservation c
  else s

/-- R89 step 4: a transaction in WAIT_BUFFER is taken again, with the translation it carries. -/
def State.restartWaiting (s : State) (c : Chan) : State :=
  match (s.chan c).txn with
  | some { request := .write addr data, phase := .waitBuffer, translation := some tr, .. } =>
    s.placeWrite c addr data tr
  | some { request := .read _ size, phase := .waitBuffer, translation := some tr, .. } => s.placeRead c size tr
  | _ => s

/-- R89, R90: the acknowledge of a channel's line write, in its five steps. (A buffer that is not WRITING has no line
write outstanding, R88.) -/
def State.lineWriteAck (s : State) (c : Chan) (ack : Ack) : State :=
  if (s.chan c).buffer.state = .writing then
    let s := match ack with
      | .ok => s
      | .busError => s.writeBusError c
    let s := (s.resolveReservation c).setBuffer c Buffer.cleared
    (s.restartWaiting c).settle c
  else s

/-- R131: the host's acknowledge of the head's KILL: a bus error sets KILL_FAIL; the head is removed and its place frees;
the SYNC and drain conditions of the channels in its set are tested. The next entry is then the head (R129). (A head that
is not issued has no KILL outstanding, R130.) -/
def State.killAck (s : State) (ack : Ack) : State :=
  match s.inv.entries with
  | [] => s
  | e :: rest =>
    if e.issued then
      let s := match ack with
        | .ok => s
        | .busError => s.raiseKillFail
      e.chans.foldl State.settle ({ s with inv := { s.inv with entries := rest } } : State).grantPlace
    else s

/-! ## Observation (R144) -/

/-- R97, R98: what an observed write leaves of a channel's read path. -/
def Channel.observe (ch : Channel) (w : BusWrite) : Channel :=
  { ch with
    readAhead := ch.readAhead.filter fun l => !w.touchesLine l.line
    lineRead := ch.lineRead.map fun r =>
      if r.issued && w.touchesLine r.line then { r with stalePending := true } else r }

/-- R144: an observed write reaches the map watch (R32), the walk slots (R50), the read-ahead lines (R97) and the line
reads (R98) together. -/
def State.observe (s : State) (w : BusWrite) : State :=
  let s :=
    { s with
      tc := s.tc.dropWhere fun e => w.overlapsEntry (entryAddress (s.chan e.chan).desc.mapOrigin e.page)
      walk := s.walk.markStale fun x => w.overlapsEntry x.entryAddr }
  s.mapChans fun _ ch => ch.observe w

end Sys2Proof.Machine
end

