-- ==== Sys2Proof/Machine/Bus.lean ====
section
/-!
DEFINITION. The bus master (Chapter 8): standing requests, the address-phase arbiter, address phases and completions.
-/

namespace Sys2Proof.Machine

/-! ## Standing requests (R137) -/

/-- R129: the head of the invalidate queue requests its KILL until it is issued. -/
def State.killStands (s : State) : Bool := s.inv.entries.head?.any fun e => !e.issued

/-- R88: the line write of a channel's buffer stands. -/
def State.writeStands (s : State) (c : Chan) : Bool := (s.chan c).buffer.requestsWrite

/-- R95: the line read of a channel stands. -/
def State.readStands (s : State) (c : Chan) : Bool := (s.chan c).lineRead.any fun r => !r.issued

/-- R139, R140: the request the arbiter chooses: KILL, then the older WALK, then WRITE and READ round-robin by channel. -/
def State.chooseRequest (s : State) : Option Requester :=
  if s.killStands then some .kill
  else
    match s.walk.requests with
    | i :: _ => some (.walk i)
    | [] =>
      match (roundFrom allChans s.bus.writeLast).find? s.writeStands with
      | some c => some (.write c)
      | none => ((roundFrom allChans s.bus.readLast).find? s.readStands).map .read

/-- R139: the bridge asks the bus for a grant while a request stands and fewer than four cycles are outstanding. -/
def State.asksGrant (s : State) : Bool := decide (s.bus.cycles.length < 4) && s.chooseRequest.isSome

/-! ## Address phases (R141) -/

/-- R141 step 2: a free cycle record is filled; the round-robin record of the class moves (R140). -/
def BusMaster.issue (b : BusMaster) (r : Requester) : BusMaster where
  cycles := b.cycles ++ [{ id := b.nextId, requester := r }]
  writeLast := match r with
    | .write c => c
    | _ => b.writeLast
  readLast := match r with
    | .read c => c
    | _ => b.readLast
  nextId := b.nextId + 1

/-- R141: the address phase of a chosen request: the request leaves its class, a record is filled, the requester is told
that its cycle is issued, and a line WRITE is offered to the observers (R144). -/
def State.issue (s : State) (r : Requester) : State :=
  let s := { s with bus := s.bus.issue r }
  match r with
  | .kill =>
    match s.inv.entries with
    | [] => s
    | e :: rest => { s with inv := { s.inv with entries := { e with issued := true } :: rest } }
  | .walk i =>
    let walk := s.walk.modSlot i fun w => { w with issued := true }
    { s with walk := { walk with requests := walk.requests.filter fun j => j ≠ i } }
  | .read c => s.modChan c fun ch => { ch with lineRead := ch.lineRead.map fun l => { l with issued := true } }
  | .write c =>
    let b := (s.chan c).buffer
    (s.setBuffer c { b with state := .writing }).observe b.busWrite

/-- R139: a grant is one happening: the chosen request is issued, or the grant is returned unused. -/
def State.busGrant (s : State) : State :=
  if s.bus.cycles.length < 4 then
    match s.chooseRequest with
    | some r => s.issue r
    | none => s
  else s

/-! ## Views of the bus (R136, R138) -/

/-- R136: what a bridge cycle puts on the bus at its address phase. -/
inductive BusCycle where
  | walkRead (entryAddr : Word)
  | lineRead (line : Word)
  | lineWrite (line : Word) (data : LineData) (mask : Vector Bool 16)
  | kill (line : Word)
  deriving DecidableEq, Repr

/-- R136, R137: the cycle a requester's request or outstanding cycle stands for. -/
def State.busCycle (s : State) : Requester → Option BusCycle
  | .walk i => s.walk.slots[i].map fun w => .walkRead w.entryAddr
  | .read c => (s.chan c).lineRead.map fun r => .lineRead r.line
  | .write c =>
    let b := (s.chan c).buffer
    if b.state = .empty then none else some (.lineWrite b.line b.data b.mask)
  | .kill => s.inv.entries.head?.map fun e => .kill e.line

/-- R138: the outstanding cycles of the four kinds. -/
def BusMaster.walks (b : BusMaster) : Nat := b.cycles.countP fun k =>
  match k.requester with
  | .walk _ => true
  | _ => false

/-- R138: the outstanding line READs. -/
def BusMaster.reads (b : BusMaster) : Nat := b.cycles.countP fun k =>
  match k.requester with
  | .read _ => true
  | _ => false

/-- R138: the outstanding line WRITEs. -/
def BusMaster.writes (b : BusMaster) : Nat := b.cycles.countP fun k =>
  match k.requester with
  | .write _ => true
  | _ => false

/-- R138: the outstanding KILLs. -/
def BusMaster.kills (b : BusMaster) : Nat := b.cycles.countP fun k => k.requester == .kill

/-- R149, R174: no WALK, READ or WRITE cycle is outstanding. -/
def BusMaster.onlyKills (b : BusMaster) : Bool := b.cycles.all fun k => k.requester == .kill

/-! ## Completions (R146, R174) -/

/-- R138, R146: the occupied record an identity names. -/
def BusMaster.recordOf (b : BusMaster) (id : Nat) : Option Cycle := b.cycles.find? fun k => k.id == id

/-- R146: the record is freed. -/
def State.freeRecord (s : State) (id : Nat) : State :=
  { s with bus := { s.bus with cycles := s.bus.cycles.filter fun k => k.id ≠ id } }

/-- R174: RESETTING ends at the report that no WALK, READ or WRITE cycle is outstanding. -/
def State.endResetting (s : State) : State :=
  if s.bus.onlyKills then { s with bridge := .running } else s

/-- R146: a completion is taken: its record is freed, its requester handles it, and the bus master makes its report
(R149). A completion whose identity (kind and number) names no occupied record is ignored. -/
def State.complete (s : State) (k : Completion) : State :=
  match k with
  | .walk id result =>
    match s.bus.recordOf id with
    | some { requester := .walk i, .. } => ((s.freeRecord id).walkReturn i result).endResetting
    | _ => s
  | .lineRead id result =>
    match s.bus.recordOf id with
    | some { requester := .read c, .. } => ((s.freeRecord id).lineReadReturn c result).endResetting
    | _ => s
  | .lineWrite id ack =>
    match s.bus.recordOf id with
    | some { requester := .write c, .. } => ((s.freeRecord id).lineWriteAck c ack).endResetting
    | _ => s
  | .kill id ack =>
    match s.bus.recordOf id with
    | some { requester := .kill, .. } => ((s.freeRecord id).killAck ack).endResetting
    | _ => s

end Sys2Proof.Machine
end

