-- ==== Sys2Proof/Machine/Ports.lean ====
section
/-!
DEFINITION. The channel ports (Chapter 4): READ, WRITE and SYNC, and the taking of a request held at a port.
-/

namespace Sys2Proof.Machine

/-- R14 to R16: an accepted READ or WRITE takes the alignment check, then the map length check, and then becomes the
pending transaction, in WAIT_LOOKUP, which is its claim on the TC port (R22). -/
def State.acceptAccess (s : State) (c : Chan) (r : Request) (access : Access) (addr : ChanAddr) (size : Size) :
    State :=
  if aligned addr size = false then s.failTransaction c access addr .misaligned .fault
  else if (s.chan c).desc.mapLength.toNat ≤ (pageOf addr).toNat then
    s.failTransaction c access addr .outOfMap .fault
  else
    s.modChan c fun ch =>
      { ch with txn := some { request := r, phase := .waitLookup, translation := none, writeErrorSeen := false } }

/-- R63: an accepted SYNC enters WAIT_SYNC, is a flush cause for its channel's buffer, and is answered at once when its
condition holds. -/
def State.acceptSync (s : State) (c : Chan) : State :=
  let t : Transaction := { request := .sync, phase := .waitSync, translation := none, writeErrorSeen := false }
  ((s.modChan c fun ch => { ch with txn := some t }).flushBuffer c).settle c

/-- R14, R58: a request that is taken is accepted in ACTIVE with the bridge RUNNING, and answered STOPPED otherwise. -/
def State.takeRequest (s : State) (c : Chan) (r : Request) : State :=
  if (s.chan c).state = .active ∧ s.bridge = .running then
    match r.access? with
    | some (access, addr, size) => s.acceptAccess c r access addr size
    | none => s.acceptSync c
  else s.answer c .stopped

/-- R58: the port takes its first held request if the channel holds no pending transaction. -/
def State.portTake (s : State) (c : Chan) : State :=
  match (s.chan c).txn, (s.chan c).held with
  | none, r :: rest => (s.modChan c fun ch => { ch with held := rest }).takeRequest c r
  | _, _ => s

/-- R58, R180: a request is presented at a port. It joins the requests held there, and the port takes its first one
unless a transaction is pending or `RESET#` is held (log entry 5). -/
def State.present (s : State) (c : Chan) (r : Request) : State :=
  let s := s.modChan c fun ch => { ch with held := ch.held ++ [r] }
  s.unlessReset fun s => s.portTake c

/-- A port that can take a request it holds, the lowest-numbered first. -/
def State.readyPort (s : State) : Option Chan :=
  allChans.find? fun c => (s.chan c).txn.isNone && !(s.chan c).held.isEmpty

/-! ## The meanings -/

/-- READ (R14, R58). -/
def execRead (c : Chan) (addr : ChanAddr) (size : Size) (s : State) : Result :=
  .next (s.present c (.read addr size))

/-- WRITE (R14, R58). -/
def execWrite (c : Chan) (addr : ChanAddr) (data : WriteData) (s : State) : Result :=
  .next (s.present c (.write addr data))

/-- SYNC (R58, R63). -/
def execSync (c : Chan) (s : State) : Result := .next (s.present c .sync)

end Sys2Proof.Machine
end

