-- ==== Sys2Proof/Machine/Timebase.lean ====
section
/-!
DEFINITION. The timebase and the idle timers (5.2): ticks, expiries, the divisor, and what a bridge-clock period does.
-/

namespace Sys2Proof.Machine

/-- R85: a buffer's idle timer counts: the buffer is FILLING and the channel's idle timeout is not 0. -/
def Channel.timerCounts (ch : Channel) : Bool := ch.buffer.state == .filling && ch.desc.idleTimeout != 0

/-- R85: what a tick leaves of a channel: a counting timer lowered by one. -/
def Channel.lowerTimer (ch : Channel) : Channel :=
  if ch.timerCounts then { ch with buffer := { ch.buffer with timer := ch.buffer.timer - 1 } } else ch

/-- R85: the buffer's timer has reached 0. -/
def Channel.expired (ch : Channel) : Bool := ch.timerCounts && ch.buffer.timer == 0

/-- The channels whose timers have reached 0, ascending. -/
def State.expiredChans (s : State) : List Chan := allChans.filter fun c => (s.chan c).expired

/-- R83, R85, R123: the expired buffers go to PENDING, and so ask for places, in an order the spec leaves open when
there are several (a free value, log entry 2). -/
def State.flushExpired (s : State) : State :=
  let cs := s.expiredChans
  if cs.length ≤ 1 then cs.foldl State.flushBuffer s
  else
    (pickOrder (Config.expiryOrder s.freeCount) cs.length cs).foldl State.flushBuffer
      { s with freeCount := s.freeCount + 1 }

/-- R84, R85: a tick is taken: the count returns to 0, every counting timer is lowered by one, and the buffers whose timers
reach 0 go to PENDING. With divisor 0 the timebase is stopped and no tick is taken. -/
def State.tick (s : State) : State :=
  if s.time.divisor = 0 then s
  else
    (({ s with time := { s.time with count := 0 } } : State).mapChans fun _ ch => ch.lowerTimer).flushExpired

/-- R84: one bridge-clock period: with a non-zero divisor the count advances by one, and when it reaches the divisor a
tick is taken. -/
def State.clockPeriod (s : State) : State :=
  if s.time.divisor = 0 then s
  else if s.time.count + 1 < s.time.divisor.toNat then
    { s with time := { s.time with count := s.time.count + 1 } }
  else s.tick

/-- R85: the expiry of one channel's timer: it reaches 0 from 1 and the FILLING buffer goes to PENDING. A timer that does
not count, that stands above 1, or that no tick can reach (divisor 0) does not expire (log entry 8). -/
def State.expireTimer (s : State) (c : Chan) : State :=
  if s.time.divisor ≠ 0 ∧ (s.chan c).timerCounts = true ∧ (s.chan c).buffer.timer ≤ 1 then s.flushBuffer c else s

/-- R84, R175: a divisor write stores the divisor and sets the count to 0. -/
def State.writeDivisor (s : State) (value : Word) : State :=
  { s with time := { divisor := value.extractLsb' 0 8, count := 0 } }

/-- What the block does when no command waits: nothing while `RESET#` is held (R180); else a port that can take a request
it holds takes it (R58); else one bridge-clock period passes (R84). Log entries 5 and 7. -/
def State.idle (s : State) : State :=
  s.unlessReset fun s =>
    match s.readyPort with
    | some c => s.portTake c
    | none => s.clockPeriod

/-! ## The meanings -/

/-- TICK (R85). -/
def execTick (s : State) : Result := .next (s.unlessReset State.tick)

/-- IDLE_TIMER_EXPIRY (R85). -/
def execIdleTimerExpiry (c : Chan) (s : State) : Result := .next (s.unlessReset fun s => s.expireTimer c)

/-- DIVISOR_WRITE (R84, R175). -/
def execDivisorWrite (value : Word) (s : State) : Result := .next (s.unlessReset fun s => s.writeDivisor value)

end Sys2Proof.Machine
end

