-- ==== Sys2Proof/Machine/Commands.lean ====
section
/-!
DEFINITION. The command unit and its nine commands, and the services of the TC port (Chapters 2, 4, 6 and 10).
-/

namespace Sys2Proof.Machine

/-! ## The command unit (R169 to R171) -/

/-- R171, R158: a command completes: the record is set to it and its outcome, the unit is IDLE, CMD_DONE is set. -/
def State.completeCommand (s : State) (n : CommandName) (channel : BitVec 4) (page : BitVec 14) (o : CmdOutcome) :
    State :=
  { s with
    cmd := { busy := false, command := some n, channel, page, outcome := o }
    ints := { s.ints with cmdDone := true } }

/-- R22, R169, R171: an XLAT command is taken: the unit goes BUSY, which is its claim on the TC port; the record names the
command and keeps the previous outcome. -/
def State.claimPort (s : State) (n : CommandName) (channel : BitVec 4) (page : BitVec 14) : State :=
  { s with cmd := { s.cmd with busy := true, command := some n, channel, page } }

/-! ## Channel commands (R66 to R72) and TAGS_CLEAR (R116) -/

/-- R8, R66: CH_ENABLE at a channel. -/
def State.enableChannel (s : State) (c : Chan) : State × CmdOutcome :=
  if (s.chan c).state = .disabled then
    if (s.chan c).desc.legal then (s.modChan c fun ch => { ch with state := .active }, .ok) else (s, .badDesc)
  else (s, .wrongState)

/-- R67: CH_RESUME at a channel. -/
def State.resumeChannel (s : State) (c : Chan) : State × CmdOutcome :=
  if (s.chan c).state = .faulted then (s.modChan c fun ch => { ch with state := .active }, .ok)
  else (s, .wrongState)

/-- R68: CH_DISABLE at a channel: DRAINING, the FILLING buffer flushed, the read-ahead line dropped, the pending
transaction kept; then the drain condition is tested (R65). -/
def State.disableChannel (s : State) (c : Chan) : State × CmdOutcome :=
  if (s.chan c).state = .active ∨ (s.chan c).state = .faulted then
    (((s.flushBuffer c).modChan c fun ch => { ch with state := .draining, readAhead := none }).settle c, .ok)
  else (s, .wrongState)

/-- R70, R54, R24, R99: what CH_ABORT and soft reset release of a channel's pending transaction, by its phase, and the
answer STOPPED. (A claim on the TC port is the phase WAIT_LOOKUP itself and goes with the transaction.) -/
def State.stopTransaction (s : State) (c : Chan) : State :=
  match (s.chan c).txn with
  | none => s
  | some t =>
    let s := match t.phase with
      | .waitWalk => s.abortWalk c
      | .waitLookup | .waitBuffer | .waitRead | .waitSync => s
    s.answer c .stopped

/-- R99: the line read record at CH_ABORT or soft reset: withdrawn when requested, discard-marked when issued. -/
def LineRead.aborted (r : LineRead) : Option LineRead := if r.issued then some { r with discard := true } else none

/-- R91, R133: the buffer at CH_ABORT: a FILLING or PENDING one is discarded; its reservation is released, or it leaves
the waiters; a WRITING one is left to its acknowledge. -/
def State.discardBuffer (s : State) (c : Chan) : State :=
  let b := (s.chan c).buffer
  match b.state with
  | .empty | .writing => s
  | .filling | .pending =>
    let s := ({ s with inv := { s.inv with waiters := s.inv.waiters.filter fun d => d ≠ c } } : State).setBuffer c
      Buffer.cleared
    if b.reservation = .held then s.grantPlace else s

/-- R70: CH_ABORT at a channel; the abort condition is then tested (R65). In DISABLED and ABORTING: OK, no change. -/
def State.abortChannel (s : State) (c : Chan) : State × CmdOutcome :=
  match (s.chan c).state with
  | .disabled | .aborting => (s, .ok)
  | .active | .faulted | .draining =>
    let s := (s.stopTransaction c).discardBuffer c
    let s := s.modChan c fun ch =>
      { ch with state := .aborting, readAhead := none, lineRead := ch.lineRead.bind LineRead.aborted }
    (s.settle c, .ok)

/-- R116: TAGS_CLEAR at the store. -/
def State.clearTags (s : State) : State × CmdOutcome :=
  match s.shadow.state with
  | .idle => ({ s with shadow := s.shadow.startSweep }, .ok)
  | .clearing => (s, .wrongState)

/-- R170 step 4: a command that passed its tests is carried out, or claims the TC port. -/
def State.dispatchCommand (s : State) (n : CommandName) (channel : BitVec 4) (page : BitVec 14) : State :=
  let c := chanOfOperand channel
  match n with
  | .chEnable => (s.enableChannel c).1.completeCommand n channel page (s.enableChannel c).2
  | .chDisable => (s.disableChannel c).1.completeCommand n channel page (s.disableChannel c).2
  | .chResume => (s.resumeChannel c).1.completeCommand n channel page (s.resumeChannel c).2
  | .chAbort => (s.abortChannel c).1.completeCommand n channel page (s.abortChannel c).2
  | .tagsClear => s.clearTags.1.completeCommand n channel page s.clearTags.2
  | .xlatFlushPage | .xlatFlushChannel | .xlatFlushAll | .xlatProbe => s.claimPort n channel page

/-- R169, R170: a write of a command to COMMAND: dropped with CMD_OVERRUN while the unit is BUSY; else refused in
RESETTING, refused for an operand out of range, or dispatched. -/
def State.command (s : State) (n : CommandName) (channel : BitVec 4) (page : BitVec 14) : State :=
  if s.cmd.busy then s.raiseCmdOverrun
  else if s.bridge = .resetting then s.completeCommand n channel page .resetting
  else if n.operandsOk channel page then s.dispatchCommand n channel page
  else s.completeCommand n channel page .badOperand

/-! ## The TC port (R22 to R39) -/

/-- R22: the requester holds a claim: a channel in WAIT_LOOKUP, the command unit while BUSY. -/
def State.claims (s : State) : PortUser → Bool
  | .channel c => (s.chan c).txn.any fun t => t.phase == .waitLookup
  | .commandUnit => s.cmd.busy

/-- R23: the requester the port serves next: the first with a claim after the last-served, going round. -/
def State.portPick (s : State) : Option PortUser := (roundFrom portOrder s.tc.lastServed).find? s.claims

/-- R23: the last-served record moves to the requester served. -/
def State.served (s : State) (u : PortUser) : State := { s with tc := { s.tc with lastServed := u } }

/-- R27: a miss: the transaction moves to WAIT_WALK and its page is handed to the walk unit. -/
def State.missLookup (s : State) (c : Chan) (p : Page) : State :=
  (s.modChan c fun ch => { ch with txn := ch.txn.map fun t => { t with phase := .waitWalk } }).startWalk c p

/-- R25 to R27: the lookup of channel `c` is served. -/
def State.lookup (s : State) (c : Chan) : State :=
  match (s.chan c).txn.bind fun t => t.request.access? with
  | none => s
  | some (_, addr, _) =>
    match s.tc.find c (pageOf addr) with
    | some (i, e) => (({ s with tc := s.tc.touch i } : State).checkRights c e.xlat).settle c
    | none => s.missLookup c (pageOf addr)

/-- R34 to R37, R51: the scope of a flush: the entries it drops, and the walks it stale-marks if they are issued. -/
def flushScope (n : CommandName) (c : Chan) (p : Page) (chan : Chan) (page : Page) : Bool :=
  match n with
  | .xlatFlushPage => chan == c && page == p
  | .xlatFlushChannel => chan == c
  | _ => true

/-- R34 to R36, R51: a flush service drops the entries in its scope and stale-marks its issued walks. -/
def State.flushTranslations (s : State) (n : CommandName) (c : Chan) (p : Page) : State :=
  { s with
    tc := s.tc.dropWhere fun e => flushScope n c p e.chan e.page
    walk := s.walk.markStale fun w => flushScope n c p w.chan w.page }

/-- R34 to R39: the command unit's claim is served; the command completes with OK. -/
def State.serveCommand (s : State) : State :=
  let c := chanOfOperand s.cmd.channel
  let p := pageOfOperand s.cmd.page
  match s.cmd.command with
  | none => s
  | some n =>
    let s' :=
      if n = .xlatProbe then { s with tc := { s.tc with probe := s.tc.probeFor c p } }
      else s.flushTranslations n c p
    s'.completeCommand n s.cmd.channel s.cmd.page .ok

/-- R23, R25: the port serves a channel's lookup, when round-robin brings a channel's claim up next. -/
def State.lookupService (s : State) : State :=
  match s.portPick with
  | some (.channel c) => (s.served (.channel c)).lookup c
  | _ => s

/-- R22, R23: the port serves the command unit, when round-robin brings its claim up next. -/
def State.commandService (s : State) : State :=
  match s.portPick with
  | some .commandUnit => (s.served .commandUnit).serveCommand
  | _ => s

/-! ## The meanings -/

/-- CH_ENABLE (R66, R8, R169 to R171). -/
def execChEnable (channel : BitVec 4) (page : BitVec 14) (s : State) : Result :=
  .next (s.unlessReset fun s => s.command .chEnable channel page)

/-- CH_DISABLE (R68, R169 to R171). -/
def execChDisable (channel : BitVec 4) (page : BitVec 14) (s : State) : Result :=
  .next (s.unlessReset fun s => s.command .chDisable channel page)

/-- CH_RESUME (R67, R169 to R171). -/
def execChResume (channel : BitVec 4) (page : BitVec 14) (s : State) : Result :=
  .next (s.unlessReset fun s => s.command .chResume channel page)

/-- CH_ABORT (R70, R169 to R171). -/
def execChAbort (channel : BitVec 4) (page : BitVec 14) (s : State) : Result :=
  .next (s.unlessReset fun s => s.command .chAbort channel page)

/-- XLAT_FLUSH_PAGE (R34, R169 to R171). -/
def execXlatFlushPage (channel : BitVec 4) (page : BitVec 14) (s : State) : Result :=
  .next (s.unlessReset fun s => s.command .xlatFlushPage channel page)

/-- XLAT_FLUSH_CHANNEL (R35, R169 to R171). -/
def execXlatFlushChannel (channel : BitVec 4) (page : BitVec 14) (s : State) : Result :=
  .next (s.unlessReset fun s => s.command .xlatFlushChannel channel page)

/-- XLAT_FLUSH_ALL (R36, R169 to R171). -/
def execXlatFlushAll (channel : BitVec 4) (page : BitVec 14) (s : State) : Result :=
  .next (s.unlessReset fun s => s.command .xlatFlushAll channel page)

/-- XLAT_PROBE (R39, R169 to R171). -/
def execXlatProbe (channel : BitVec 4) (page : BitVec 14) (s : State) : Result :=
  .next (s.unlessReset fun s => s.command .xlatProbe channel page)

/-- TAGS_CLEAR (R116, R169 to R171). -/
def execTagsClear (channel : BitVec 4) (page : BitVec 14) (s : State) : Result :=
  .next (s.unlessReset fun s => s.command .tagsClear channel page)

/-- LOOKUP_SERVICE (R22 to R27). -/
def execLookupService (s : State) : Result := .next (s.unlessReset State.lookupService)

/-- COMMAND_SERVICE (R22 to R24, R34 to R39). -/
def execCommandService (s : State) : Result := .next (s.unlessReset State.commandService)

end Sys2Proof.Machine
end

