-- ==== Sys2Proof/Machine/BusEvents.lean ====
section
/-!
DEFINITION. The commands that come from the system bus: grants, completions, observed writes and fills (Chapter 8), and
the sweep of the shadow tag store (Chapter 6).
-/

namespace Sys2Proof.Machine

/-- R103, R104: an observed host line fill: ignored under OFF, recorded in an enabled way, reported by FILL_WAY and
COHERENCE in a disabled one. -/
def State.takeFill (s : State) (line : Word) (w : Way) : State :=
  if s.shadow.mode.tracksFills then
    if s.shadow.enabled w then { s with shadow := s.shadow.record line w } else s.raiseFillWay
  else s

/-- R117, R118: a sweep step is taken while the store is CLEARING; the step at set 255 raises SWEEP_DONE. -/
def State.takeSweepStep (s : State) : State :=
  match s.shadow.state with
  | .idle => s
  | .clearing =>
    let s' := { s with shadow := s.shadow.sweepStep }
    if s.shadow.pointer = 255 then s'.raiseSweepDone else s'

/-! ## The meanings -/

/-- BUS_GRANT (R139 to R141). -/
def execBusGrant (s : State) : Result := .next (s.unlessReset State.busGrant)

/-- WALK_DATA_RETURN (R45, R146). -/
def execWalkDataReturn (id : Nat) (result : WalkResult) (s : State) : Result :=
  .next (s.unlessReset fun s => s.complete (.walk id result))

/-- LINE_READ_DATA_RETURN (R96, R146). -/
def execLineReadDataReturn (id : Nat) (result : LineResult) (s : State) : Result :=
  .next (s.unlessReset fun s => s.complete (.lineRead id result))

/-- LINE_WRITE_ACKNOWLEDGE (R89, R90, R146). -/
def execLineWriteAcknowledge (id : Nat) (ack : Ack) (s : State) : Result :=
  .next (s.unlessReset fun s => s.complete (.lineWrite id ack))

/-- KILL_ACKNOWLEDGE (R131, R146). -/
def execKillAcknowledge (id : Nat) (ack : Ack) (s : State) : Result :=
  .next (s.unlessReset fun s => s.complete (.kill id ack))

/-- IGNORED_COMPLETION (R146): a completion arrives; one whose identity names no occupied record changes nothing (and
one that names a record is no ignored completion: it is taken as R146 says). -/
def execIgnoredCompletion (completion : Completion) (s : State) : Result :=
  .next (s.unlessReset fun s => s.complete completion)

/-- OBSERVED_WRITE (R143, R144). -/
def execObservedWrite (addr : Word) (enables : List Bool) (s : State) : Result :=
  .next (s.unlessReset fun s => s.observe { addr, enables })

/-- FILL (R103 to R105). -/
def execFill (line : Word) (way : Way) (s : State) : Result :=
  .next (s.unlessReset fun s => s.takeFill line way)

/-- SWEEP_STEP (R117, R118). -/
def execSweepStep (s : State) : Result := .next (s.unlessReset State.takeSweepStep)

end Sys2Proof.Machine
end

