-- ==== Sys2Proof/Machine/Resets.lean ====
section
/-!
DEFINITION. The resets: `RESET#` asserted and released (11.1), and the soft reset (10.4).
-/

namespace Sys2Proof.Machine

/-! ## `RESET#` -/

/-- R79, R180: a channel at the assertion: the pending transaction answered STOPPED, every structure at its power-on
value; what the peripheral still presents stays at the port (R58). -/
def Channel.powerOff (ch : Channel) : Channel :=
  { Channel.powerOn with
    held := ch.held
    answers := if ch.txn.isSome then ch.answers ++ [.stopped] else ch.answers }

/-- R180: the assertion of `RESET#`. The window base stays until the next release (R164). -/
def State.assertReset (s : State) : State where
  resetHeld := true
  windowBase := s.windowBase
  bridge := .running
  chans := s.chans.map Channel.powerOff
  tc := Tc.powerOn
  walk := WalkUnit.powerOn
  shadow := Shadow.powerOn s.freeCount
  inv := InvQueue.powerOn
  bus := BusMaster.powerOn s.bus.nextId
  log := FaultLog.powerOn
  sticky := Sticky.powerOn
  ints := Interrupts.powerOn
  cmd := CommandUnit.powerOn
  time := Timebase.powerOn
  freeCount := s.freeCount + 1
  pending := s.pending

/-- R58, R181: the request still presented at a port at the release is taken and answered STOPPED: the channel is
DISABLED. -/
def Channel.atRelease (ch : Channel) : Channel :=
  match ch.held with
  | [] => ch
  | _ :: rest => { ch with held := rest, answers := ch.answers ++ [.stopped] }

/-- R164, R181: the release of `RESET#`: the straps are sampled and the window base fixed; the blocks stand at their
power-on values since the assertion. -/
def State.releaseReset (s : State) (wsel1 wsel0 : Bool) : State :=
  { s with
    resetHeld := false
    windowBase := strapBase wsel1 wsel0
    chans := s.chans.map Channel.atRelease }

/-! ## Soft reset (R173, R174) -/

/-- R79, R92, R99: a channel at a soft reset. -/
def Channel.softReset (ch : Channel) : Channel :=
  { ch with
    state := .disabled
    txn := none
    answers := if ch.txn.isSome then ch.answers ++ [.stopped] else ch.answers
    buffer := if ch.buffer.state = .writing then ch.buffer else Buffer.cleared
    readAhead := none
    lineRead := ch.lineRead.bind LineRead.aborted }

/-- R24, R172: the command unit at a soft reset: a BUSY command completes with RESETTING; either way the unit is IDLE. -/
def State.stopCommand (s : State) : State :=
  if s.cmd.busy then
    match s.cmd.command with
    | some n => s.completeCommand n s.cmd.channel s.cmd.page .resetting
    | none => { s with cmd := { s.cmd with busy := false } }
  else s

/-- R173: the soft reset trigger in RUNNING, block by block; RESETTING ends at once when no WALK, READ or WRITE cycle is
outstanding (R174). In RESETTING it changes nothing. -/
def State.softReset (s : State) : State :=
  match s.bridge with
  | .resetting => s
  | .running =>
    let s := s.stopCommand
    let s := { s with
      bridge := .resetting
      chans := s.chans.map Channel.softReset
      tc := { s.tc.dropAll with lastServed := .commandUnit }
      walk := s.walk.softReset
      inv := { s.inv with waiters := [] }
      bus := { s.bus with writeLast := 7, readLast := 7 }
      log := { s.log with records := [] }
      ints := { s.ints with channelOff := 0 } }
    s.endResetting

/-! ## The meanings -/

/-- RESET_ASSERTION (R180). While `RESET#` is already held it changes nothing. -/
def execResetAssertion (s : State) : Result := .next (s.unlessReset State.assertReset)

/-- RESET_RELEASE (R181, R164). While `RESET#` is not held there is nothing to release, and it changes nothing. -/
def execResetRelease (wsel1 wsel0 : Bool) (s : State) : Result :=
  .next (if s.resetHeld then s.releaseReset wsel1 wsel0 else s)

/-- SOFT_RESET (R173, R174). -/
def execSoftReset (s : State) : Result := .next (s.unlessReset State.softReset)

end Sys2Proof.Machine
end

