-- ==== Sys2Proof/Machine/Window.lean ====
section
/-!
DEFINITION. The register window (Chapter 10): its decode, what each register reads, and what a write to each does.
-/

namespace Sys2Proof.Machine

/-! ## The register map (R167) -/

/-- R167: the registers of the window. -/
inductive Reg where
  | ident | resetControl | timebase | globalStatus | intCause | intMask | channelOffSet
  | command | commandStatus | probeResult | shadowControl | shadowStatus | invalidateStatus | busStatus
  | faultHead0 | faultHead1 | faultLogStatus | faultPop
  | desc (c : Chan) (reg : DescReg)
  | channelStatus (c : Chan)
  deriving DecidableEq, Repr

/-- R167: the register at an offset of the channel blocks, 0x100..0x17F. -/
def channelReg (offset : Nat) : Reg :=
  let c : Chan := Fin.ofNat 8 ((offset - 0x100) / 0x10)
  match offset % 0x10 / 4 with
  | 0 => .desc c .mapOrigin
  | 1 => .desc c .mapLength
  | 2 => .desc c .channelSettings
  | _ => .channelStatus c

/-- R167: the register at a 4-byte-aligned offset; every offset not listed has none. -/
def regAt (offset : Nat) : Option Reg :=
  if offset = 0x000 then some .ident
  else if offset = 0x004 then some .resetControl
  else if offset = 0x008 then some .timebase
  else if offset = 0x00C then some .globalStatus
  else if offset = 0x010 then some .intCause
  else if offset = 0x014 then some .intMask
  else if offset = 0x018 then some .channelOffSet
  else if offset = 0x020 then some .command
  else if offset = 0x024 then some .commandStatus
  else if offset = 0x028 then some .probeResult
  else if offset = 0x030 then some .shadowControl
  else if offset = 0x034 then some .shadowStatus
  else if offset = 0x040 then some .invalidateStatus
  else if offset = 0x044 then some .busStatus
  else if offset = 0x050 then some .faultHead0
  else if offset = 0x054 then some .faultHead1
  else if offset = 0x058 then some .faultLogStatus
  else if offset = 0x05C then some .faultPop
  else if 0x100 ≤ offset ∧ offset < 0x180 ∧ offset % 4 = 0 then some (channelReg offset)
  else none

/-- R164: the address falls in the window range. -/
def State.inWindow (s : State) (addr : Word) : Bool :=
  decide (s.windowBase.toNat ≤ addr.toNat) && decide (addr.toNat < s.windowBase.toNat + 0x1000)

/-- R164: the offset of the word an address lies in, from the window base. -/
def State.offsetOf (s : State) (addr : Word) : Nat := (addr.toNat - s.windowBase.toNat) / 4 * 4

/-! ## What the registers read (R165, R176 to R179) -/

/-- A field of a register word: the value `v` at bits from `lsb` up. -/
def fieldAt (v lsb : Nat) : Word := BitVec.ofNat 32 v <<< lsb

/-- R179 (10.8.2): the code of a cause. -/
def Cause.code : Cause → Nat
  | .notValid => 1
  | .noRead => 2
  | .noWrite => 3
  | .outOfMap => 4
  | .misaligned => 5
  | .mapBusErr => 6
  | .readBusErr => 7
  | .writeBusErr => 8

/-- R179 (10.8.2): FAULT_HEAD0 of a head record. -/
def FaultRecord.word0 (r : FaultRecord) : Word :=
  fieldAt 1 31 ||| fieldAt r.cause.code 12 ||| fieldAt (match r.access with | .read => 0 | .write => 1) 11
    ||| fieldAt r.chan.val 8 ||| fieldAt r.seq.toNat 0

/-- R179 (10.8.4): the code of a command; 0 names none. -/
def commandCode : Option CommandName → Nat
  | none => 0
  | some .chEnable => 1
  | some .chDisable => 2
  | some .chResume => 3
  | some .chAbort => 4
  | some .xlatFlushPage => 5
  | some .xlatFlushChannel => 6
  | some .xlatFlushAll => 7
  | some .xlatProbe => 8
  | some .tagsClear => 9

/-- R179 (10.8.4): the code of an outcome. -/
def CmdOutcome.code : CmdOutcome → Nat
  | .ok => 0
  | .wrongState => 1
  | .badDesc => 2
  | .badOperand => 3
  | .resetting => 4

/-- R171, R179: COMMAND_STATUS. -/
def CommandUnit.word (u : CommandUnit) : Word :=
  fieldAt u.page.toNat 16 ||| fieldAt u.channel.toNat 12 ||| fieldAt u.outcome.code 8
    ||| fieldAt (commandCode u.command) 4 ||| bitAt u.busy 0

/-- R39, R179: PROBE_RESULT. -/
def ProbeResult.word (p : ProbeResult) : Word :=
  fieldAt p.xlat.frame.toNat 11 ||| fieldAt p.entry.val 4 ||| bitAt p.xlat.coh 3 ||| bitAt p.xlat.wr 2
    ||| bitAt p.xlat.rd 1 ||| bitAt p.hit 0

/-- R179: the code of a shadow mode. -/
def ShadowMode.code : ShadowMode → Nat
  | .off => 0
  | .track => 1
  | .broadcast => 2

/-- R179: SHADOW_CONTROL: the way mask and the mode. -/
def Shadow.controlWord (sh : Shadow) : Word := fieldAt sh.wayMask.toNat 8 ||| fieldAt sh.mode.code 0

/-- R102, R179: SHADOW_STATUS. -/
def Shadow.statusWord (sh : Shadow) : Word :=
  fieldAt sh.pointer 16 ||| sh.controlWord ||| bitAt (sh.state == .clearing) 2

/-- R122, R179: INVALIDATE_STATUS. -/
def State.invalidateWord (s : State) : Word :=
  bitAt (s.inv.entries.head?.any fun e => e.issued) 16 ||| fieldAt s.inv.waiters.length 8
    ||| fieldAt s.reservations 4 ||| fieldAt s.inv.entries.length 0

/-- R138, R176, R179: BUS_STATUS. -/
def BusMaster.word (b : BusMaster) : Word :=
  bitAt (!b.onlyKills) 24 ||| fieldAt b.kills 16 ||| fieldAt b.writes 12 ||| fieldAt b.reads 8
    ||| fieldAt b.walks 4 ||| fieldAt b.cycles.length 0

/-- R157, R179: GLOBAL_STATUS. -/
def Sticky.word (f : Sticky) : Word :=
  bitAt f.fillWay 0 ||| bitAt f.killFail 1 ||| bitAt f.descIgnored 2 ||| bitAt f.cmdOverrun 3 ||| bitAt f.badWrite 4

/-- R3 to R5, R7, R179: a register of a descriptor. -/
def Descriptor.word (d : Descriptor) : DescReg → Word
  | .mapOrigin => d.mapOrigin
  | .mapLength => fieldAt d.mapLength.toNat 0
  | .channelSettings =>
    bitAt d.readAhead 16 ||| fieldAt d.idleTimeout.toNat 8 ||| fieldAt d.quota.toNat 0

/-- R179 (10.8.5): the codes of CHANNEL_STATUS. -/
def ChState.code : ChState → Nat
  | .disabled => 0
  | .active => 1
  | .faulted => 2
  | .draining => 3
  | .aborting => 4

/-- R179 (10.8.5): the code of a request's kind. -/
def Request.code : Request → Nat
  | .read _ _ => 0
  | .write _ _ => 1
  | .sync => 2

/-- R179 (10.8.5): the code of a phase. -/
def Phase.code : Phase → Nat
  | .waitLookup => 0
  | .waitWalk => 1
  | .waitBuffer => 2
  | .waitRead => 3
  | .waitSync => 4

/-- R179 (10.8.5): the code of a buffer's state. -/
def BufState.code : BufState → Nat
  | .empty => 0
  | .filling => 1
  | .pending => 2
  | .writing => 3

/-- R179 (10.8.5): the code of a reservation. -/
def Reservation.code : Reservation → Nat
  | .none => 0
  | .held => 1
  | .waiting => 2

/-- R177, R179: CHANNEL_STATUS. While no transaction is pending, kind and phase read 0. -/
def Channel.statusWord (ch : Channel) : Word :=
  let txn := match ch.txn with
    | some t => fieldAt t.phase.code 8 ||| fieldAt t.request.code 5 ||| fieldAt 1 4
    | none => 0
  fieldAt ch.buffer.reservation.code 14 ||| fieldAt ch.buffer.state.code 12 ||| txn ||| fieldAt ch.state.code 0

/-- R165, R167: the word a register reads. Write-only registers read 0; RESET_CONTROL reads the bridge state (R173). -/
def State.readReg (s : State) : Reg → Word
  | .ident => 0x1D420801
  | .resetControl => bitAt (s.bridge == .resetting) 0
  | .timebase => fieldAt s.time.divisor.toNat 0
  | .globalStatus => s.sticky.word
  | .intCause => s.causeBits.setWidth 32
  | .intMask => s.ints.mask.setWidth 32
  | .channelOffSet => s.ints.channelOff.setWidth 32
  | .command => 0
  | .commandStatus => s.cmd.word
  | .probeResult => s.tc.probe.word
  | .shadowControl => s.shadow.controlWord
  | .shadowStatus => s.shadow.statusWord
  | .invalidateStatus => s.invalidateWord
  | .busStatus => s.bus.word
  | .faultHead0 => (s.log.records.head?.map FaultRecord.word0).getD 0
  | .faultHead1 => (s.log.records.head?.map fun r => fieldAt r.addr.toNat 0).getD 0
  | .faultLogStatus => fieldAt s.log.nextSeq.toNat 8 ||| fieldAt s.log.records.length 0
  | .faultPop => 0
  | .desc c reg => (s.chan c).desc.word reg
  | .channelStatus c => (s.chan c).statusWord

/-- The bits of a word that byte lanes select: lane `i` is bits `8i+7..8i`. -/
def laneMask (lanes : BitVec 4) : Word :=
  (if lanes.getLsbD 0 then 0x000000FF#32 else 0) ||| (if lanes.getLsbD 1 then 0x0000FF00#32 else 0)
    ||| (if lanes.getLsbD 2 then 0x00FF0000#32 else 0) ||| (if lanes.getLsbD 3 then 0xFF000000#32 else 0)

/-- R164, R165: a read of host address space on the bytes that `lanes` selects of the word at `addr`: not answered while
`RESET#` is held or outside the window; a word with no register reads 0. It is a view: reading changes no state. -/
def State.windowRead (s : State) (addr : Word) (lanes : BitVec 4) : Option Word :=
  if !s.resetHeld && s.inWindow addr then
    some ((((regAt (s.offsetOf addr)).map s.readReg).getD 0) &&& laneMask lanes)
  else none

/-! ## What writes do (R165, R166) -/

/-- R155: the head record leaves the log; FAULT_PENDING follows the log. An empty log is not changed. -/
def State.popFault (s : State) : State := { s with log := { s.log with records := s.log.records.tail } }

/-- R6: a descriptor write is taken in DISABLED; in any other state it is ignored with DESC_IGNORED. -/
def State.writeDescriptor (s : State) (c : Chan) (reg : DescReg) (value : Word) : State :=
  if (s.chan c).state = .disabled then s.modChan c fun ch => { ch with desc := ch.desc.write reg value }
  else s.raiseDescIgnored

/-- R106, R107, R165, R166: a write of the mode and way mask fields, taken at the store as a whole, or refused with
BAD_WRITE when the mode field names no mode. -/
def State.writeShadowControl (s : State) (mode : BitVec 2) (mask : BitVec 8) : State :=
  match modeOfBits mode with
  | some m => { s with shadow := { s.shadow with mode := m, wayMask := mask } }
  | none => s.raiseBadWrite

/-- R169, R170, R179: a 4-byte write to COMMAND: dropped with CMD_OVERRUN while the unit is BUSY, whatever its code;
refused with BAD_WRITE when its code names no command. -/
def State.writeCommand (s : State) (value : Word) : State :=
  let channel := value.extractLsb' 4 4
  let page := value.extractLsb' 8 14
  match commandOfCode (value.extractLsb' 0 4) with
  | some n => s.command n channel page
  | none => if s.cmd.busy then s.raiseCmdOverrun else s.raiseBadWrite

/-- R165: a 4-byte write to a register, by its access type. -/
def State.writeReg (s : State) (r : Reg) (value : Word) : State :=
  match r with
  | .ident | .commandStatus | .probeResult | .shadowStatus | .invalidateStatus | .busStatus => s
  | .faultHead0 | .faultHead1 | .faultLogStatus | .channelStatus _ => s
  | .resetControl => if value.getLsbD 0 then s.softReset else s
  | .timebase => s.writeDivisor value
  | .globalStatus => s.clearStatus value
  | .intCause => s.clearCauses value
  | .intMask => s.writeMask value
  | .channelOffSet => s.clearChannelOff value
  | .command => s.writeCommand value
  | .shadowControl => s.writeShadowControl (value.extractLsb' 0 2) (value.extractLsb' 8 8)
  | .faultPop => s.popFault
  | .desc c reg => s.writeDescriptor c reg value

/-- R164 to R166: a write to host address space. Outside the window it does not reach the block. Inside, a write of fewer
than four bytes sets BAD_WRITE and changes nothing else; a 4-byte write is handled by the register it reaches, and one
that reaches none changes nothing. -/
def State.windowWrite (s : State) (addr : Word) (lanes : BitVec 4) (value : Word) : State :=
  if s.inWindow addr then
    if lanes = 0xF then
      match regAt (s.offsetOf addr) with
      | some r => s.writeReg r value
      | none => s
    else s.raiseBadWrite
  else s

/-! ## The meanings -/

/-- FAULT_POP (R155); the value plays no part. -/
def execFaultPop (_value : Word) (s : State) : Result := .next (s.unlessReset State.popFault)

/-- MODE_WRITE (R107): a write of SHADOW_CONTROL that changes the mode field and writes the way mask back as it is. -/
def execModeWrite (mode : BitVec 2) (s : State) : Result :=
  .next (s.unlessReset fun s => s.writeShadowControl mode s.shadow.wayMask)

/-- WAY_MASK_WRITE (R106): a write of SHADOW_CONTROL that changes the way mask field and writes the mode back as it is. -/
def execWayMaskWrite (mask : BitVec 8) (s : State) : Result :=
  .next (s.unlessReset fun s => { s with shadow := { s.shadow with wayMask := mask } })

/-- DESCRIPTOR_WRITE (R6). -/
def execDescriptorWrite (c : Chan) (reg : DescReg) (value : Word) (s : State) : Result :=
  .next (s.unlessReset fun s => s.writeDescriptor c reg value)

/-- GLOBAL_STATUS_CLEAR (R157). -/
def execGlobalStatusClear (value : Word) (s : State) : Result := .next (s.unlessReset fun s => s.clearStatus value)

/-- INT_CAUSE_CLEAR (R161). -/
def execIntCauseClear (value : Word) (s : State) : Result := .next (s.unlessReset fun s => s.clearCauses value)

/-- CHANNEL_OFF_CLEAR (R160). -/
def execChannelOffClear (value : Word) (s : State) : Result := .next (s.unlessReset fun s => s.clearChannelOff value)

/-- INT_MASK_WRITE (R162). -/
def execIntMaskWrite (value : Word) (s : State) : Result := .next (s.unlessReset fun s => s.writeMask value)

/-- REGISTER_WRITE (R164 to R166): a write at any address, with any byte lanes. -/
def execRegisterWrite (addr : Word) (lanes : BitVec 4) (value : Word) (s : State) : Result :=
  .next (s.unlessReset fun s => s.windowWrite addr lanes value)

end Sys2Proof.Machine
end

