-- ==== Sys2Proof/Machine/Dispatch.lean ====
section
/-!
DEFINITION. One arm for each command: the command to its meaning.
-/

namespace Sys2Proof.Machine

def exec (i : Instr) (s : State) : Host.Outcome State Fault Refusal :=
  match i with
  | .resetAssertion => Sys2Proof.Machine.execResetAssertion s
  | .resetRelease wsel1 wsel0 => Sys2Proof.Machine.execResetRelease wsel1 wsel0 s
  | .read c addr size => Sys2Proof.Machine.execRead c addr size s
  | .write c addr data => Sys2Proof.Machine.execWrite c addr data s
  | .sync c => Sys2Proof.Machine.execSync c s
  | .chEnable channel page => Sys2Proof.Machine.execChEnable channel page s
  | .chDisable channel page => Sys2Proof.Machine.execChDisable channel page s
  | .chResume channel page => Sys2Proof.Machine.execChResume channel page s
  | .chAbort channel page => Sys2Proof.Machine.execChAbort channel page s
  | .xlatFlushPage channel page => Sys2Proof.Machine.execXlatFlushPage channel page s
  | .xlatFlushChannel channel page => Sys2Proof.Machine.execXlatFlushChannel channel page s
  | .xlatFlushAll channel page => Sys2Proof.Machine.execXlatFlushAll channel page s
  | .xlatProbe channel page => Sys2Proof.Machine.execXlatProbe channel page s
  | .tagsClear channel page => Sys2Proof.Machine.execTagsClear channel page s
  | .lookupService => Sys2Proof.Machine.execLookupService s
  | .commandService => Sys2Proof.Machine.execCommandService s
  | .busGrant => Sys2Proof.Machine.execBusGrant s
  | .walkDataReturn id result => Sys2Proof.Machine.execWalkDataReturn id result s
  | .lineReadDataReturn id result => Sys2Proof.Machine.execLineReadDataReturn id result s
  | .lineWriteAcknowledge id ack => Sys2Proof.Machine.execLineWriteAcknowledge id ack s
  | .killAcknowledge id ack => Sys2Proof.Machine.execKillAcknowledge id ack s
  | .ignoredCompletion completion => Sys2Proof.Machine.execIgnoredCompletion completion s
  | .observedWrite addr enables => Sys2Proof.Machine.execObservedWrite addr enables s
  | .fill line way => Sys2Proof.Machine.execFill line way s
  | .sweepStep => Sys2Proof.Machine.execSweepStep s
  | .tick => Sys2Proof.Machine.execTick s
  | .idleTimerExpiry c => Sys2Proof.Machine.execIdleTimerExpiry c s
  | .softReset => Sys2Proof.Machine.execSoftReset s
  | .faultPop value => Sys2Proof.Machine.execFaultPop value s
  | .divisorWrite value => Sys2Proof.Machine.execDivisorWrite value s
  | .modeWrite mode => Sys2Proof.Machine.execModeWrite mode s
  | .wayMaskWrite mask => Sys2Proof.Machine.execWayMaskWrite mask s
  | .descriptorWrite c reg value => Sys2Proof.Machine.execDescriptorWrite c reg value s
  | .globalStatusClear value => Sys2Proof.Machine.execGlobalStatusClear value s
  | .intCauseClear value => Sys2Proof.Machine.execIntCauseClear value s
  | .channelOffClear value => Sys2Proof.Machine.execChannelOffClear value s
  | .intMaskWrite value => Sys2Proof.Machine.execIntMaskWrite value s
  | .registerWrite addr lanes value => Sys2Proof.Machine.execRegisterWrite addr lanes value s

end Sys2Proof.Machine
end

