-- ==== Sys2Proof/Safety.lean ====
section
/-!
DEFINITION. The laws of the ID4208: what holds in every state of a run, in the terms claims use. Each is a predicate of
one state; the spec calls most of them "a law of the ID4208".
-/

namespace Sys2Proof.Machine

/-- R122: "the queued invalidate entries plus the outstanding reservations never number more than 8". -/
def PlacesLaw (s : State) : Prop := s.placesInUse ≤ 8

/-- R127: "no two queued invalidate entries that are not yet issued name the same line". -/
def UnissuedLinesLaw (s : State) : Prop :=
  ((s.inv.entries.filter fun e => !e.issued).map InvEntry.line).Nodup

/-- R127, R129: "Only the head entry is ever issued". -/
def HeadIssuedLaw (s : State) : Prop := ∀ e ∈ s.inv.entries.tail, e.issued = false

/-- R105: "a shadow entry carries a fresh mark only while the store is CLEARING and only in a set at or above the sweep
pointer". -/
def FreshMarkLaw (s : State) : Prop :=
  ∀ (set : Fin 256) (way : Way) (e : ShadowEntry),
    s.shadow.sets[set][way] = some e → e.fresh = true → s.shadow.state = .clearing ∧ s.shadow.pointer ≤ set.val

/-- R102: the sweep pointer holds 256 in IDLE and is below 256 while the store is CLEARING. -/
def SweepPointerLaw (s : State) : Prop :=
  match s.shadow.state with
  | .idle => s.shadow.pointer = 256
  | .clearing => s.shadow.pointer < 256

/-- R150: "the fault log holds at most 8 records". -/
def FaultLogLaw (s : State) : Prop := s.log.records.length ≤ 8

/-- R29: "the translation cache never holds two valid entries for the same (channel, page) pair". -/
def OneTranslationLaw (s : State) : Prop :=
  ∀ (i j : Fin 16) (a b : TcEntry), s.tc.entries[i] = some a → s.tc.entries[j] = some b →
    a.chan = b.chan → a.page = b.page → i = j

/-- R20: the recency list holds each entry number once, the valid entries first, then the free ones in ascending entry
number. -/
def RecencyLaw (s : State) : Prop :=
  s.tc.recency.Nodup ∧
    s.tc.recency = s.tc.recency.filter (fun i => s.tc.entries[i].isSome)
      ++ (List.finRange 16).filter (fun i => s.tc.entries[i].isNone) ∧
    ∀ i : Fin 16, i ∈ s.tc.recency

/-- R80: "a coalescing buffer is FILLING only while its channel is ACTIVE". -/
def FillingLaw (s : State) : Prop := ∀ c, (s.chan c).buffer.state = .filling → (s.chan c).state = .active

/-- R97: the read-ahead line is dropped when the channel leaves ACTIVE, so only an ACTIVE channel has a valid one. -/
def ReadAheadLaw (s : State) : Prop := ∀ c, (s.chan c).readAhead.isSome = true → (s.chan c).state = .active

/-- R4, R8: a channel outside DISABLED has the legal descriptor it was enabled with. -/
def LegalDescriptorLaw (s : State) : Prop := ∀ c, (s.chan c).state ≠ .disabled → (s.chan c).desc.legal = true

/-- R3: a stored map origin begins on a 64-byte boundary. -/
def OriginLaw (s : State) : Prop := ∀ c, (s.chan c).desc.mapOrigin.toNat % 64 = 0

/-- R79, R174: while the bridge is RESETTING every channel is DISABLED, and the command unit is IDLE (R172). -/
def ResettingLaw (s : State) : Prop :=
  s.bridge = .resetting → s.cmd.busy = false ∧ ∀ c, (s.chan c).state = .disabled

/-- R138: at most four cycles are outstanding, and no two records carry the same identity, nor one that is still to be
given. -/
def OutstandingLaw (s : State) : Prop :=
  s.bus.cycles.length ≤ 4 ∧ (s.bus.cycles.map Cycle.id).Nodup ∧ ∀ k ∈ s.bus.cycles, k.id < s.bus.nextId

/-- R84: the count stands below the divisor, and at 0 while the timebase is stopped. -/
def TimebaseLaw (s : State) : Prop :=
  s.time.count < s.time.divisor.toNat ∨ (s.time.divisor = 0 ∧ s.time.count = 0)

/-- R164: the window base is one of the four the straps select. -/
def WindowBaseLaw (s : State) : Prop := ∃ wsel1 wsel0, s.windowBase = strapBase wsel1 wsel0

/-- R63, R69, R71: no condition is left untested: no pending SYNC's condition holds, no DRAINING channel's drain condition
holds, and no ABORTING channel's abort condition holds. -/
def SettledLaw (s : State) : Prop :=
  ∀ c,
    (∀ t, (s.chan c).txn = some t → t.request = .sync → s.syncReady c = false) ∧
      ((s.chan c).state = .draining → s.drainReady c = false) ∧
      ((s.chan c).state = .aborting → s.abortReady c = false)

/-- R122 to R125: a buffer holds a place only while PENDING or WRITING and waits for one only while PENDING; the waiters
are the channels whose buffers wait, each once; and there is a waiter only while all 8 places are in use. -/
def WaiterLaw (s : State) : Prop :=
  (∀ c, (s.chan c).buffer.reservation = .held →
      (s.chan c).buffer.state = .pending ∨ (s.chan c).buffer.state = .writing) ∧
    (∀ c, (s.chan c).buffer.reservation = .waiting → (s.chan c).buffer.state = .pending) ∧
    (∀ c, c ∈ s.inv.waiters ↔ (s.chan c).buffer.reservation = .waiting) ∧
    s.inv.waiters.Nodup ∧ (s.inv.waiters ≠ [] → s.placesInUse = 8) ∧ s.placesInUse ≤ 8

/-- R65, R70, R79: a transaction is pending only in ACTIVE, FAULTED or DRAINING. -/
def PendingLaw (s : State) : Prop :=
  ∀ c, (s.chan c).txn ≠ none →
    (s.chan c).state = .active ∨ (s.chan c).state = .faulted ∨ (s.chan c).state = .draining

/-- R141, R146: the requester of a cycle holds its own record of the cycle: an issued walk slot or line read, a WRITING
buffer, an issued head of the invalidate queue. -/
def State.issued (s : State) : Requester → Prop
  | .walk i => ∃ w, s.walk.slots[i] = some w ∧ w.issued = true
  | .read c => ∃ r, (s.chan c).lineRead = some r ∧ r.issued = true
  | .write c => (s.chan c).buffer.state = .writing
  | .kill => ∃ e rest, s.inv.entries = e :: rest ∧ e.issued = true

/-- R137, R138, R146: each requester has at most one outstanding cycle, and has one exactly while it holds it as issued;
at most four are outstanding and their identities are distinct. -/
def CycleLaw (s : State) : Prop :=
  OutstandingLaw s ∧ (s.bus.cycles.map Cycle.requester).Nodup ∧
    (∀ r, (∃ k ∈ s.bus.cycles, k.requester = r) ↔ s.issued r) ∧ HeadIssuedLaw s

/-- A channel whose work was withdrawn and whose cycles are still to return: ABORTING, or DISABLED by a soft reset. -/
def State.winding (s : State) (c : Chan) : Prop :=
  (s.chan c).state = .aborting ∨ ((s.chan c).state = .disabled ∧ s.bridge = .resetting)

/-- R42, R44, R54, R57: a walk that is not discarded is that of its channel's transaction in WAIT_WALK, of its page; a
discarded one is issued and its channel is ABORTING or reset; the slots and the queue places name distinct channels, the
queue holds places only while both slots are busy, and the requests are those of the busy slots not issued, each once. -/
def WalkLaw (s : State) : Prop :=
  let waits := fun (c : Chan) (p : Page) =>
    ∃ t access addr size, (s.chan c).txn = some t ∧ t.phase = .waitWalk ∧
      t.request.access? = some (access, addr, size) ∧ pageOf addr = p
  (∀ i : Fin 2, ∀ w, s.walk.slots[i] = some w →
      (w.discard = false → waits w.chan w.page) ∧ (w.discard = true → w.issued = true ∧ s.winding w.chan)) ∧
    (∀ q ∈ s.walk.queue, waits q.chan q.page) ∧
    ((s.walk.slots.toList.filterMap fun x => x.map Walk.chan) ++ s.walk.queue.map WalkWait.chan).Nodup ∧
    (s.walk.queue ≠ [] → ∀ i : Fin 2, s.walk.slots[i] ≠ none) ∧
    s.walk.requests.Nodup ∧
    ∀ i : Fin 2, i ∈ s.walk.requests ↔ ∃ w, s.walk.slots[i] = some w ∧ w.issued = false

/-- R93, R94, R99: a line read that is not discarded is that of its channel's READ in WAIT_READ; a discarded one is issued
and its channel is ABORTING or reset. -/
def LineReadLaw (s : State) : Prop :=
  ∀ c r, (s.chan c).lineRead = some r →
    (r.discard = false →
      ∃ t addr size tr, (s.chan c).txn = some t ∧ t.phase = .waitRead ∧ t.request = .read addr size ∧
        t.translation = some tr) ∧
      (r.discard = true → r.issued = true ∧ s.winding c)

/-- R21: "a channel never holds more valid translation cache entries than its quota, and a channel in DISABLED holds none". -/
def QuotaLaw (s : State) : Prop :=
  ∀ c, s.tc.heldCount c ≤ (s.chan c).desc.quota.toNat ∧ ((s.chan c).state = .disabled → s.tc.heldCount c = 0)

/-- The walks, the line reads, the outstanding cycles and the quotas, with the laws they rest on. -/
def TrafficLaws (s : State) : Prop :=
  PendingLaw s ∧ WalkLaw s ∧ LineReadLaw s ∧ CycleLaw s ∧ ResettingLaw s ∧ LegalDescriptorLaw s ∧ RecencyLaw s ∧
    OneTranslationLaw s ∧ QuotaLaw s

/-! ## Terms the claims are stated in -/

/-- The law is kept by every step, from every state in which it holds. -/
def KeptByStep (law : State → Prop) : Prop := ∀ s t, law s → step s = .next t → law t

/-- A command taken `n` times in turn. -/
def execTimes (i : Instr) : Nat → State → Result
  | 0, s => .next s
  | n + 1, s =>
    match exec i s with
    | .next t => execTimes i n t
    | .fault f => .fault f
    | .refused r => .refused r

/-- The command that presents a request at a port. -/
def Request.instr (c : Chan) : Request → Instr
  | .read addr size => .read c addr size
  | .write addr data => .write c addr data
  | .sync => .sync c

/-- The request a command presents, with its channel. -/
def presented : Instr → Option (Chan × Request)
  | .read c addr size => some (c, .read addr size)
  | .write c addr data => some (c, .write addr data)
  | .sync c => some (c, .sync)
  | .resetAssertion | .resetRelease .. | .lookupService | .commandService | .busGrant => none
  | .chEnable .. | .chDisable .. | .chResume .. | .chAbort .. => none
  | .xlatFlushPage .. | .xlatFlushChannel .. | .xlatFlushAll .. | .xlatProbe .. | .tagsClear .. => none
  | .walkDataReturn .. | .lineReadDataReturn .. | .lineWriteAcknowledge .. | .killAcknowledge .. => none
  | .ignoredCompletion .. | .observedWrite .. | .fill .. | .sweepStep | .tick | .idleTimerExpiry .. => none
  | .softReset | .faultPop .. | .divisorWrite .. | .modeWrite .. | .wayMaskWrite .. => none
  | .descriptorWrite .. | .globalStatusClear .. | .intCauseClear .. | .channelOffClear .. => none
  | .intMaskWrite .. | .registerWrite .. => none

/-- R58, R59: the requests a port has been presented with: those answered, the one pending, and those held. -/
def Channel.requestsSeen (ch : Channel) : Nat :=
  ch.answers.length + (if ch.txn.isSome then 1 else 0) + ch.held.length

/-- R168: the command of the table that writes a command name to COMMAND. -/
def CommandName.instr (n : CommandName) (channel : BitVec 4) (page : BitVec 14) : Instr :=
  match n with
  | .chEnable => .chEnable channel page
  | .chDisable => .chDisable channel page
  | .chResume => .chResume channel page
  | .chAbort => .chAbort channel page
  | .xlatFlushPage => .xlatFlushPage channel page
  | .xlatFlushChannel => .xlatFlushChannel channel page
  | .xlatFlushAll => .xlatFlushAll channel page
  | .xlatProbe => .xlatProbe channel page
  | .tagsClear => .tagsClear channel page

/-- R58: the port of channel `c` takes the next request presented at it: `RESET#` is not held, no transaction is
pending and no earlier request is held there. -/
def PortFree (s : State) (c : Chan) : Prop :=
  s.resetHeld = false ∧ (s.chan c).txn = none ∧ (s.chan c).held = []

/-- R169, R170: a command written now is tested for its operands and dispatched. -/
def CommandReady (s : State) : Prop := s.resetHeld = false ∧ s.bridge = .running ∧ s.cmd.busy = false

/-- R83, R87, R123: what a flush cause at channel `c`'s buffer makes of it and of the invalidate queue: a FILLING buffer
is PENDING with timer 0 and its contents kept, with no reservation if COH is clear or the mode is OFF, else holding a
place when fewer than 8 are in use, else waiting at the tail of the waiters. -/
def Flushed (s t : State) (c : Chan) : Prop :=
  let b := (s.chan c).buffer
  let b' := (t.chan c).buffer
  if b.state = .filling then
    b' = { b with state := .pending, timer := 0, reservation := b'.reservation } ∧
      if b.coh = false ∨ s.shadow.mode = .off then b'.reservation = .none ∧ t.inv = s.inv
      else if s.placesInUse < 8 then b'.reservation = .held ∧ t.inv = s.inv
      else b'.reservation = .waiting ∧ t.inv = { s.inv with waiters := s.inv.waiters ++ [c] }
  else b' = b ∧ t.inv = s.inv

/-- R153: what a fault handed to the fault log makes of the log and of the causes. -/
def Logged (s t : State) (c : Chan) (access : Access) (addr : ChanAddr) (cause : Cause) : Prop :=
  t.log.nextSeq = s.log.nextSeq + 1 ∧
    if s.log.records.length < 8 then
      t.log.records = s.log.records ++ [{ seq := s.log.nextSeq, chan := c, access, addr, cause }] ∧ t.ints = s.ints
    else t.log.records = s.log.records ∧ t.ints = { s.ints with logOverflow := true }

/-- R73 to R75, R153: what a fault of channel `c`'s transaction leaves: the transaction answered and removed, the fault
handed to the log, an ACTIVE channel FAULTED with its buffer flushed and its read-ahead line dropped, any other channel
state kept; nothing else changes. -/
def FaultTaken (s t : State) (c : Chan) (access : Access) (addr : ChanAddr) (cause : Cause) (answer : Answer) : Prop :=
  Logged s t c access addr cause ∧
    (if (s.chan c).state = .active then
      Flushed s t c ∧
        t.chan c =
          { s.chan c with
            state := .faulted, txn := none, answers := (s.chan c).answers ++ [answer], readAhead := none
            buffer := (t.chan c).buffer }
    else
      t.inv = s.inv ∧ t.chan c = { s.chan c with txn := none, answers := (s.chan c).answers ++ [answer] }) ∧
    (∀ d, d ≠ c → t.chan d = s.chan d) ∧
    t = { s with chans := t.chans, inv := t.inv, log := t.log, ints := t.ints }

/-- R49: what the freeing of walk slot `i` makes of the walk unit: idle, or taken by the head of the walk wait queue. -/
def SlotFreed (s t : State) (i : Fin 2) : Prop :=
  match s.walk.queue with
  | [] => t.walk = { s.walk with slots := s.walk.slots.set i none }
  | q :: rest =>
    t.walk =
      { slots := s.walk.slots.set i (some
          { chan := q.chan, page := q.page
            entryAddr := BitVec.ofNat 32 ((s.chan q.chan).desc.mapOrigin.toNat + 4 * q.page.toNat)
            issued := false, stale := false, discard := false })
        requests := s.walk.requests ++ [i]
        queue := rest }

/-- R23: the place of a requester in the port's cyclic order. -/
def portIndex : PortUser → Nat
  | .channel c => c.val
  | .commandUnit => 8

/-- R23: how many requesters stand before `u` in the cycle that begins after the last-served one. -/
def portWait (last u : PortUser) : Nat := (portIndex u + 8 - portIndex last) % 9

/-- R23: `u` is the requester the TC port serves next: it holds a claim, and no claim stands before it in the cycle. -/
def NextServed (s : State) (u : PortUser) : Prop :=
  s.claims u = true ∧ ∀ v, s.claims v = true → portWait s.tc.lastServed u ≤ portWait s.tc.lastServed v

/-- R140: how many channels stand before `c` in the cycle that begins after the last-served one. -/
def chanWait (last c : Chan) : Nat := (c.val + 7 - last.val) % 8

/-- R140: `c` is the channel a round-robin class serves next. -/
def NextInClass (stands : Chan → Bool) (last c : Chan) : Prop :=
  stands c = true ∧ ∀ d, stands d = true → chanWait last c ≤ chanWait last d

/-- R144: the write whose byte `k` of `enables` stands for the byte at `addr + k` writes a byte of the `n` bytes from
`base` on. -/
def Writes (addr : Word) (enables : List Bool) (base : Word) (n : Nat) : Prop :=
  ∃ k, enables[k]? = some true ∧ base.toNat ≤ addr.toNat + k ∧ addr.toNat + k < base.toNat + n

/-- R19, R20: the drop of the translation cache entries that satisfy `p`: they are free, the others are as they were, the
valid entries keep their order at the front of the recency list, and the free ones follow in ascending entry number. -/
def Dropped (t t' : Tc) (p : TcEntry → Prop) : Prop :=
  (∀ i : Fin 16, ∀ e, t.entries[i] = some e → (p e → t'.entries[i] = none) ∧ (¬ p e → t'.entries[i] = some e)) ∧
    (∀ i : Fin 16, t.entries[i] = none → t'.entries[i] = none) ∧
    t'.recency = t.recency.filter (fun i => t'.entries[i].isSome)
      ++ (List.finRange 16).filter (fun i => t'.entries[i].isNone) ∧
    t'.lastServed = t.lastServed ∧ t'.probe = t.probe

/-- R71, R38, R160: what the end of a cycle of channel `c` makes of an ABORTING channel: DISABLED, its translation cache
entries dropped and CHANNEL_OFF raised, when no cycle of it is outstanding any more; otherwise nothing. -/
def AbortTested (s t : State) (c : Chan) : Prop :=
  if (s.chan c).state = .aborting ∧ t.inSlot c = false ∧
      ((t.chan c).lineRead.all fun r => !r.issued) = true ∧ (t.chan c).buffer.state ≠ .writing then
    (t.chan c).state = .disabled ∧ Dropped s.tc t.tc (fun e => e.chan = c) ∧
      t.ints = { s.ints with channelOff := s.ints.channelOff ||| BitVec.ofNat 8 (2 ^ c.val) }
  else (t.chan c).state = (s.chan c).state ∧ t.tc = s.tc ∧ t.ints = s.ints

/-- R109 to R114: the shadow lookup of a line at an acknowledge has the result queue: under BROADCAST always, under TRACK
when an enabled way of the line's set holds it or an invalidate for it is queued, under OFF never. -/
def LookupQueues (s : State) (line : Word) : Prop :=
  s.shadow.mode = .broadcast ∨
    (s.shadow.mode = .track ∧
      ((∃ (w : Way) (e : ShadowEntry), s.shadow.wayMask.getLsbD w.val = true ∧
          s.shadow.sets[setOf line][w] = some e ∧ e.tag = tagOf line) ∨
        ∃ e ∈ s.inv.entries, e.line = line))

/-! ## The conditions of a channel, and what their test leaves (R63, R69, R71) -/

/-- R63, R132: the condition a SYNC waits for: the buffer EMPTY, no reservation held, no queued entry with the channel in
its set. -/
def SyncCondition (s : State) (c : Chan) : Prop :=
  (s.chan c).buffer.state = .empty ∧ (s.chan c).buffer.reservation ≠ .held ∧ ∀ e ∈ s.inv.entries, c ∉ e.chans

/-- R63: the channel's pending transaction is a SYNC whose condition holds. -/
def SyncEnds (s : State) (c : Chan) : Prop :=
  (∃ x, (s.chan c).txn = some x ∧ x.request = .sync) ∧ SyncCondition s c

/-- R69: a DRAINING channel's five parts hold: no transaction is left (a SYNC whose condition holds is answered first),
the buffer is EMPTY, no walk slot or queue place holds the channel, no reservation and no queued entry is its. -/
def DrainEnds (s : State) (c : Chan) : Prop :=
  (s.chan c).state = .draining ∧ ((s.chan c).txn = none ∨ SyncEnds s c) ∧ SyncCondition s c ∧
    s.inWalkQueue c = false ∧ s.inSlot c = false

/-- R71: an ABORTING channel's three parts hold: no walk slot holds it, no line read of it is issued, and its buffer is
not WRITING. -/
def AbortEnds (s : State) (c : Chan) : Prop :=
  (s.chan c).state = .aborting ∧ s.inSlot c = false ∧ (∀ r, (s.chan c).lineRead = some r → r.issued = false) ∧
    (s.chan c).buffer.state ≠ .writing

/-- R63, R64: what the test of its condition makes of a channel's pending SYNC. -/
def SyncTested (s t : State) (c : Chan) : Prop :=
  (∀ x, (s.chan c).txn = some x → SyncEnds s c →
      (t.chan c).txn = none ∧
        (t.chan c).answers = (s.chan c).answers ++ [if x.writeErrorSeen = true then .fault else .done []]) ∧
    (¬ SyncEnds s c → (t.chan c).txn = (s.chan c).txn ∧ (t.chan c).answers = (s.chan c).answers)

/-- R63, R69, R71, R38, R160: what the test of channel `c`'s conditions leaves: its SYNC answered when its condition
holds; the channel DISABLED, its translation cache entries dropped and CHANNEL_OFF raised for it, when its drain or its
abort ends; nothing else changes. -/
def ConditionsTested (s t : State) (c : Chan) : Prop :=
  SyncTested s t c ∧
    (DrainEnds s c ∨ AbortEnds s c →
      (t.chan c).state = .disabled ∧ Dropped s.tc t.tc (fun e => e.chan = c) ∧
        t.ints = { s.ints with channelOff := s.ints.channelOff ||| BitVec.ofNat 8 (2 ^ c.val) }) ∧
    (¬ (DrainEnds s c ∨ AbortEnds s c) → (t.chan c).state = (s.chan c).state ∧ t.tc = s.tc ∧ t.ints = s.ints) ∧
    t.chan c =
      { s.chan c with state := (t.chan c).state, txn := (t.chan c).txn, answers := (t.chan c).answers } ∧
    (∀ d, d ≠ c → t.chan d = s.chan d) ∧ t = { s with chans := t.chans, tc := t.tc, ints := t.ints }

/-! ## The path of an access with its translation in hand (R17, R62, R81, R82, R94) -/

/-- R12, R18: the translation an access is bound to by the permission check it passes. -/
def boundTo (x : Xlat) (addr : ChanAddr) : Translation where
  line := lineOf (BitVec.ofNat 32 (x.frame.toNat * 2048 + addr.toNat % 2048))
  pos := posOf addr
  coh := x.coh

/-- R81, R82: the buffer `m` that the merge of a WRITE's bytes makes of `b`, which is EMPTY, and is then opened, or is
FILLING with the WRITE's line: the bytes at their positions over those already there, their mask positions set, COH
added. -/
def Merged (b m : Buffer) (addr : ChanAddr) (data : WriteData) (tr : Translation) : Prop :=
  m.state = .filling ∧ m.line = tr.line ∧
    (∀ k : Fin 16,
      let inside := tr.pos.toNat ≤ k.val ∧ k.val < tr.pos.toNat + data.size.bytes
      (inside → data.toList[k.val - tr.pos.toNat]? = some m.data[k]) ∧
        (¬ inside → m.data[k] = if b.state = .filling then b.data[k] else 0) ∧
        (m.mask[k] = true ↔ inside ∨ (b.state = .filling ∧ b.mask[k] = true))) ∧
    (m.coh = true ↔ tr.coh = true ∨ (b.state = .filling ∧ b.coh = true)) ∧
    m.lineStart = (if b.state = .filling then b.lineStart else lineStartOf addr) ∧
    m.reservation = (if b.state = .filling then b.reservation else .none)

/-- R62: what waiting for its buffer makes of channel `c` and its transaction: the buffer flushed if it is FILLING, the
transaction in WAIT_BUFFER with its translation; nothing else changes. -/
def WaitsForBuffer (s t : State) (c : Chan) (tr : Translation) : Prop :=
  Flushed s t c ∧
    t.chan c =
      { s.chan c with
        txn := (s.chan c).txn.map fun x => { x with phase := .waitBuffer, translation := some tr }
        buffer := (t.chan c).buffer } ∧
    (∀ d, d ≠ c → t.chan d = s.chan d) ∧ t = { s with chans := t.chans, inv := t.inv }

/-- R62, R81, R82, R76: what a WRITE that reaches its channel's buffer with a translation does. An EMPTY buffer or a
FILLING one of its line merges it, and it is answered DONE; in ACTIVE the timer is loaded; the merged buffer is flushed
at once if its mask is full or the channel is not ACTIVE, and is FILLING otherwise. Any other buffer it waits for. -/
def WriteReached (s t : State) (c : Chan) (addr : ChanAddr) (data : WriteData) (tr : Translation) : Prop :=
  let b := (s.chan c).buffer
  (b.state = .empty ∨ (b.state = .filling ∧ b.line = tr.line) →
      ∃ m : Buffer, Merged b m addr data tr ∧
        ((s.chan c).state = .active → m.timer = (s.chan c).desc.idleTimeout.toNat) ∧
        ((∀ k : Fin 16, m.mask[k] = true) ∨ (s.chan c).state ≠ .active →
          Flushed (s.modChan c fun ch => { ch with buffer := m }) t c) ∧
        (¬ ((∀ k : Fin 16, m.mask[k] = true) ∨ (s.chan c).state ≠ .active) →
          (t.chan c).buffer = m ∧ t.inv = s.inv) ∧
        t.chan c =
          { s.chan c with
            txn := none, answers := (s.chan c).answers ++ [.done []], buffer := (t.chan c).buffer } ∧
        (∀ d, d ≠ c → t.chan d = s.chan d) ∧ t = { s with chans := t.chans, inv := t.inv }) ∧
    (b.state = .pending ∨ b.state = .writing ∨ (b.state = .filling ∧ b.line ≠ tr.line) → WaitsForBuffer s t c tr)

/-- R94, R62, R83: what a READ that reaches the read path with a translation does, in the rule's three steps: it waits for
its channel's buffer when that holds its line; else it is answered DONE from the read-ahead line when the channel is
ACTIVE, read-ahead is enabled and the line is valid for it; else its line read is requested and it waits in WAIT_READ. -/
def ReadReached (s t : State) (c : Chan) (size : Size) (tr : Translation) : Prop :=
  let ch := s.chan c
  let own := ch.buffer.state ≠ .empty ∧ ch.buffer.line = tr.line
  (own → WaitsForBuffer s t c tr) ∧
    (∀ d, ¬ own → ch.state = .active → ch.desc.readAhead = true → ch.readAhead = some { line := tr.line, data := d } →
      t = s.modChan c fun ch =>
        { ch with
          txn := none, answers := ch.answers ++ [.done ((d.toList.drop tr.pos.toNat).take size.bytes)] }) ∧
    (¬ own →
      ¬ (ch.state = .active ∧ ch.desc.readAhead = true ∧ ∃ d, ch.readAhead = some { line := tr.line, data := d }) →
        t = s.modChan c fun ch =>
          { ch with
            lineRead := some { line := tr.line, issued := false, stalePending := false, discard := false }
            txn := ch.txn.map fun x => { x with phase := .waitRead, translation := some tr } })

/-- R17: the permission check of channel `c`'s READ or WRITE on a translation in hand: NO_READ or NO_WRITE when the right
is clear, else on to the read path or to the buffer. -/
def PermissionChecked (s t : State) (c : Chan) (x : Xlat) : Prop :=
  ∀ y, (s.chan c).txn = some y →
    (∀ addr size, y.request = .read addr size →
      (x.rd = false → FaultTaken s t c .read addr .noRead .fault) ∧
        (x.rd = true → ReadReached s t c size (boundTo x addr))) ∧
      (∀ addr data, y.request = .write addr data →
        (x.wr = false → FaultTaken s t c .write addr .noWrite .fault) ∧
          (x.wr = true → WriteReached s t c addr data (boundTo x addr)))

/-! ## The acknowledge of a line write (R89, R90, R125 to R127) -/

/-- R125: `s` is a state in which a place has just become free, and `t` is what the invalidate queue makes of it: the head
waiter leaves the list and its buffer's reservation becomes held; with no waiter the place stays free. -/
def PlaceFreed (s t : State) : Prop :=
  match s.inv.waiters with
  | [] => t = s
  | d :: rest =>
    t.chan d = { s.chan d with buffer := { (s.chan d).buffer with reservation := .held } } ∧
      (∀ e, e ≠ d → t.chan e = s.chan e) ∧
      t = { s with chans := t.chans, inv := { s.inv with waiters := rest } }

/-- R109 to R114: what the shadow lookup of `line` makes of the store: under TRACK the enabled ways that hold the line are
cleared; nothing else changes. -/
def StoreAfterLookup (s t : State) (line : Word) : Prop :=
  (∀ (set : Fin 256) (w : Way),
    t.shadow.sets[set][w] =
      if s.shadow.mode = .track ∧ set = setOf line ∧ s.shadow.wayMask.getLsbD w.val = true ∧
          (s.shadow.sets[set][w].any fun e => e.tag == tagOf line) = true then none
      else s.shadow.sets[set][w]) ∧
    t.shadow = { s.shadow with sets := t.shadow.sets }

/-- R127: what a queue result for `line` by channel `c` makes of the queued entries: the writer joins the unissued entry of
the line, once. -/
def joined (entries : List InvEntry) (line : Word) (c : Chan) : List InvEntry :=
  entries.map fun e =>
    if e.line = line ∧ e.issued = false then { e with chans := if c ∈ e.chans then e.chans else e.chans ++ [c] }
    else e

/-- R89 step 2, R125 to R127: what the acknowledge makes of the reservation of channel `c`'s buffer. One that is held ends:
by the shadow lookup's result it is released, or its channel joins the unissued entry of the line, and its place frees
either way; or it becomes a new entry at the tail. A buffer that holds none makes no lookup. -/
def ReservationResolved (s t : State) (c : Chan) : Prop :=
  let line := (s.chan c).buffer.line
  let ended := fun entries : List InvEntry =>
    ({ s with shadow := t.shadow, inv := { s.inv with entries := entries } } : State).modChan c fun ch =>
      { ch with buffer := { ch.buffer with reservation := .none } }
  if (s.chan c).buffer.reservation = .held then
    StoreAfterLookup s t line ∧
      (¬ LookupQueues s line → PlaceFreed (ended s.inv.entries) t) ∧
      (LookupQueues s line → (∃ e ∈ s.inv.entries, e.line = line ∧ e.issued = false) →
        PlaceFreed (ended (joined s.inv.entries line c)) t) ∧
      (LookupQueues s line → (¬ ∃ e ∈ s.inv.entries, e.line = line ∧ e.issued = false) →
        t = ended (s.inv.entries ++ [{ line := line, chans := [c], issued := false }]))
  else t = s

/-- R89 step 4: what the emptied buffer makes of a transaction of channel `c` in WAIT_BUFFER: a WRITE goes to the buffer, a
READ to the read path, with the translation it carries. Any other transaction is left as it is. -/
def Restarted (s t : State) (c : Chan) : Prop :=
  (∀ x tr, (s.chan c).txn = some x → x.phase = .waitBuffer → x.translation = some tr →
      (∀ addr data, x.request = .write addr data → WriteReached s t c addr data tr) ∧
        (∀ addr size, x.request = .read addr size → ReadReached s t c size tr)) ∧
    ((∀ x tr, (s.chan c).txn = some x → x.phase = .waitBuffer → x.translation = some tr → x.request = .sync) → t = s)

/-- R89 steps 2 to 5: the reservation is resolved, the buffer becomes EMPTY with every field cleared, a transaction in
WAIT_BUFFER is taken again, and the SYNC, drain and abort conditions are tested. -/
def Acknowledged (s t : State) (c : Chan) : Prop :=
  ∃ u v : State, ReservationResolved s u c ∧
    Restarted (u.modChan c fun ch => { ch with buffer := Buffer.cleared }) v c ∧ ConditionsTested v t c

/-- R90, R74, R75, R64: what the bus error of channel `c`'s line write does first: WRITE_BUS_ERR is handed to the log at the
buffer's line start; an ACTIVE channel enters FAULTED and drops its read-ahead line, and any other keeps its state; a
pending SYNC has its write error seen field set; a transaction in any other phase is carried. -/
def WriteErrorTaken (s t : State) (c : Chan) : Prop :=
  Logged s t c .write (s.chan c).buffer.lineStart .writeBusErr ∧
    t.chan c =
      { s.chan c with
        state := if (s.chan c).state = .active then .faulted else (s.chan c).state
        readAhead := if (s.chan c).state = .active then none else (s.chan c).readAhead
        txn := (s.chan c).txn.map fun x => if x.request = .sync then { x with writeErrorSeen := true } else x } ∧
    (∀ d, d ≠ c → t.chan d = s.chan d) ∧ t = { s with chans := t.chans, log := t.log, ints := t.ints }

end Sys2Proof.Machine
end

