-- ==== Sys2Proof/Certificates/Slice0/Obligations.lean ====
section
/-!
DEFINITION. The statements for the provers. `s.resetHeld = false` stands in each for R180: while `RESET#` is held no
happening changes any state of the part.
-/

open Sys2Proof Sys2Proof.Machine

/-! ## The machine as a whole -/

/-- A step takes the command at the front of the queue and runs it with the queue's rest. -/
def Obligations.StepRunsFrontCommand : Prop :=
  ∀ (i : Instr) (rest : List Instr) (s : State),
    s.pending = i :: rest → step s = exec i { s with pending := rest }

/-- The model's choice (log entries 5 and 7): with no command waiting, the block does nothing while `RESET#` is held;
else the lowest-numbered port that can take a request it holds takes it; else one bridge-clock period passes (R84). -/
def Obligations.StepOnEmptyQueue : Prop :=
  ∀ s : State, s.pending = [] →
    (s.resetHeld = true → step s = .next s) ∧
      (∀ c r rest, s.resetHeld = false → (s.chan c).txn = none → (s.chan c).held = r :: rest →
        (∀ d : Chan, d < c → (s.chan d).txn ≠ none ∨ (s.chan d).held = []) →
          step s = .next ((s.modChan c fun ch => { ch with held := rest }).takeRequest c r)) ∧
      (s.resetHeld = false → (∀ c, (s.chan c).txn ≠ none ∨ (s.chan c).held = []) →
        step s =
          if s.time.divisor = 0 then .next s
          else if s.time.count + 1 < s.time.divisor.toNat then
            .next { s with time := { s.time with count := s.time.count + 1 } }
          else exec .tick s)

/-- No command stops the block, and none but the step itself takes a command from the queue. -/
def Obligations.EveryCommandCompletes : Prop :=
  ∀ (i : Instr) (s : State), ∃ t, exec i s = .next t ∧ t.pending = s.pending

/-- R180, R58: while `RESET#` is held every command but its release changes nothing, except that a request presented at a
port stays there, not taken. (That such a request joins the tail of a queue at its port is the model's choice, log entries 5
and 11; that a second assertion of `RESET#` is no happening is the model's choice, log entry 11.) -/
def Obligations.NothingHappensInReset : Prop :=
  ∀ (i : Instr) (s : State), s.resetHeld = true → (∀ a b, i ≠ .resetRelease a b) →
    exec i s =
      match presented i with
      | some (c, r) => .next (s.modChan c fun ch => { ch with held := ch.held ++ [r] })
      | none => .next s

/-- R59, R78: every request taken receives one answer and none is answered twice: for every port, the requests answered,
pending and held grow by the one a command presents there and by nothing else, and an answer given stays given. -/
def Obligations.OneAnswerForEachRequest : Prop :=
  ∀ (s t : State) (c : Chan), step s = .next t →
    (t.chan c).requestsSeen =
        (s.chan c).requestsSeen +
          (match s.pending.head?.bind presented with
          | some (d, _) => if d = c then 1 else 0
          | none => 0) ∧
      (s.chan c).answers <+: (t.chan c).answers

/-! ## `RESET#` -/

/-- R180: what the assertion of `RESET#` leaves. R164, R181, R58: what its release does: the straps fix the window base, and a
request still presented is taken and answered STOPPED; the blocks stand as the assertion left them. (That a request still
held is kept by the assertion, that the serial numbers of cycles run on, and that free values are drawn anew are the model's
choices, log entries 1, 6 and 11.) -/
def Obligations.ResetAssertionAndRelease : Prop :=
  (∀ s : State, s.resetHeld = false → ∃ t, exec .resetAssertion s = .next t ∧
      (∀ c, t.chan c =
        { Channel.powerOn with
          held := (s.chan c).held
          answers := if (s.chan c).txn = none then (s.chan c).answers else (s.chan c).answers ++ [.stopped] }) ∧
      t.tc = Tc.powerOn ∧ t.walk = WalkUnit.powerOn ∧ t.inv = { entries := [], waiters := [] } ∧ t.placesInUse = 0 ∧
      t.bus.cycles = [] ∧ t.bus.writeLast = 7 ∧ t.bus.readLast = 7 ∧
      t.log = { records := [], nextSeq := 0 } ∧ t.sticky = Sticky.powerOn ∧ t.ints = Interrupts.powerOn ∧
      t.cmd = CommandUnit.powerOn ∧ t.time = { divisor := 0, count := 0 } ∧
      (∀ (set : Fin 256) (way : Way) (e : ShadowEntry), t.shadow.sets[set][way] = some e → e.fresh = false) ∧
      t.shadow.mode = .track ∧ t.shadow.wayMask = 0xFF ∧ t.shadow.state = .clearing ∧ t.shadow.pointer = 0 ∧
      t.bridge = .running ∧ t.resetHeld = true ∧ t.intAsserted = false ∧
      t.windowBase = s.windowBase ∧ t.pending = s.pending) ∧
  (∀ (wsel1 wsel0 : Bool) (s : State), s.resetHeld = true →
      ∃ t, exec (.resetRelease wsel1 wsel0) s = .next t ∧
        t.windowBase = 0xC8000000 + (if wsel1 then 0x8000 else 0) + (if wsel0 then 0x4000 else 0) ∧
        (∀ c, t.chan c =
          match (s.chan c).held with
          | [] => s.chan c
          | _ :: rest => { s.chan c with held := rest, answers := (s.chan c).answers ++ [.stopped] }) ∧
        t = { s with resetHeld := false, windowBase := t.windowBase, chans := t.chans })

/-- The values R2, R20, R39, R40, R102, R120, R156, R157, R163, R169, R171, R174, R84 give for the release of `RESET#`,
as `State.reset` has them; R100: no shadow entry carries a fresh mark. -/
def Obligations.ResetValues : Prop :=
  (∀ c, (State.reset.chan c).state = .disabled ∧ (State.reset.chan c).txn = none ∧
      (State.reset.chan c).desc =
        { mapOrigin := 0, mapLength := 0, quota := 4, idleTimeout := 16, readAhead := true } ∧
      (State.reset.chan c).buffer.state = .empty ∧ (State.reset.chan c).readAhead = none ∧
      (State.reset.chan c).lineRead = none) ∧
    (∀ i : Fin 16, State.reset.tc.entries[i] = none) ∧
    State.reset.tc.recency = [0, 1, 2, 3, 4, 5, 6, 7, 8, 9, 10, 11, 12, 13, 14, 15] ∧
    State.reset.tc.lastServed = .commandUnit ∧ State.reset.tc.probe.hit = false ∧
    (∀ i : Fin 2, State.reset.walk.slots[i] = none) ∧ State.reset.walk.queue = [] ∧
    State.reset.shadow.mode = .track ∧ State.reset.shadow.wayMask = 0xFF ∧
    State.reset.shadow.state = .clearing ∧ State.reset.shadow.pointer = 0 ∧
    (∀ (set : Fin 256) (way : Way) (e : ShadowEntry),
      State.reset.shadow.sets[set][way] = some e → e.fresh = false) ∧
    State.reset.inv.entries = [] ∧ State.reset.inv.waiters = [] ∧ State.reset.bus.cycles = [] ∧
    State.reset.log.records = [] ∧ State.reset.log.nextSeq = 0 ∧ State.reset.sticky.word = 0 ∧
    State.reset.causeBits = 0 ∧ State.reset.ints.mask = 0 ∧ State.reset.bridge = .running ∧
    State.reset.cmd.busy = false ∧ State.reset.cmd.command = none ∧ State.reset.cmd.outcome = .ok ∧
    State.reset.time.divisor = 0 ∧ State.reset.time.count = 0 ∧ State.reset.intAsserted = false ∧
    State.reset.readReg .ident = 0x1D420801

/-! ## Channel ports -/

/-- R14: outside ACTIVE, or while the bridge is RESETTING, a request is answered STOPPED and changes nothing else. R58: while a
transaction is pending, a presented request is held at the port and not taken (that it stands in a queue there is the
model's choice, log entry 5). -/
def Obligations.RequestNotTaken : Prop :=
  (∀ (c : Chan) (r : Request) (s : State), PortFree s c → (s.chan c).state ≠ .active ∨ s.bridge = .resetting →
      exec (r.instr c) s = .next (s.modChan c fun ch => { ch with answers := ch.answers ++ [.stopped] })) ∧
  (∀ (c : Chan) (r : Request) (s : State), s.resetHeld = false → (s.chan c).txn ≠ none →
      exec (r.instr c) s = .next (s.modChan c fun ch => { ch with held := ch.held ++ [r] }))

/-- R14 to R16, R73: an accepted READ or WRITE that is misaligned faults MISALIGNED; one that is aligned and whose page is
at or above the map length faults OUT_OF_MAP. R14, R22, R60: one that passes both checks becomes the pending transaction, in
WAIT_LOOKUP, and changes nothing else. -/
def Obligations.AccessTaken : Prop :=
  (∀ (c : Chan) (r : Request) (access : Access) (addr : ChanAddr) (size : Size) (s : State),
      PortFree s c → (s.chan c).state = .active → s.bridge = .running → r.access? = some (access, addr, size) →
        (addr.toNat % size.bytes ≠ 0 →
          ∃ t, exec (r.instr c) s = .next t ∧ FaultTaken s t c access addr .misaligned .fault) ∧
        (addr.toNat % size.bytes = 0 → (s.chan c).desc.mapLength.toNat ≤ addr.toNat / 2048 →
          ∃ t, exec (r.instr c) s = .next t ∧ FaultTaken s t c access addr .outOfMap .fault)) ∧
  (∀ (c : Chan) (r : Request) (access : Access) (addr : ChanAddr) (size : Size) (s : State),
      PortFree s c → (s.chan c).state = .active → s.bridge = .running → r.access? = some (access, addr, size) →
        addr.toNat % size.bytes = 0 → addr.toNat / 2048 < (s.chan c).desc.mapLength.toNat →
          exec (r.instr c) s =
            .next (s.modChan c fun ch =>
              { ch with
                txn := some { request := r, phase := .waitLookup, translation := none, writeErrorSeen := false } }))

/-- R63: an accepted SYNC is answered DONE at once when its condition holds; else it waits in WAIT_SYNC, and is a flush
cause for its channel's buffer. -/
def Obligations.SyncTaken : Prop :=
  ∀ (c : Chan) (s : State), PortFree s c → (s.chan c).state = .active → s.bridge = .running →
    ((s.chan c).buffer.state = .empty → (s.chan c).buffer.reservation ≠ .held →
        (∀ e ∈ s.inv.entries, c ∉ e.chans) →
          exec (.sync c) s = .next (s.modChan c fun ch => { ch with answers := ch.answers ++ [.done []] })) ∧
      ((s.chan c).buffer.state ≠ .empty ∨ (s.chan c).buffer.reservation = .held ∨
          (∃ e ∈ s.inv.entries, c ∈ e.chans) →
        ∃ t, exec (.sync c) s = .next t ∧ Flushed s t c ∧
          t.chan c =
            { s.chan c with
              txn := some { request := .sync, phase := .waitSync, translation := none, writeErrorSeen := false }
              buffer := (t.chan c).buffer } ∧
          (∀ d, d ≠ c → t.chan d = s.chan d) ∧ t = { s with chans := t.chans, inv := t.inv })

/-! ## Commands -/

/-- R169, R170: a command written while the unit is BUSY is dropped with CMD_OVERRUN; one written in RESETTING completes
with RESETTING; one with an operand it uses out of range completes with BAD_OPERAND. None does anything else. -/
def Obligations.CommandRefused : Prop :=
  ∀ (n : CommandName) (channel : BitVec 4) (page : BitVec 14) (s : State), s.resetHeld = false →
    (s.cmd.busy = true →
        exec (n.instr channel page) s = .next { s with sticky := { s.sticky with cmdOverrun := true } }) ∧
      (s.cmd.busy = false → s.bridge = .resetting →
        exec (n.instr channel page) s =
          .next { s with
            cmd := { busy := false, command := some n, channel, page, outcome := .resetting }
            ints := { s.ints with cmdDone := true } }) ∧
      (s.cmd.busy = false → s.bridge = .running →
        (8 ≤ channel.toNat ∧ n ≠ .xlatFlushAll ∧ n ≠ .tagsClear) ∨
            (8192 ≤ page.toNat ∧ (n = .xlatFlushPage ∨ n = .xlatProbe)) →
          exec (n.instr channel page) s =
            .next { s with
              cmd := { busy := false, command := some n, channel, page, outcome := .badOperand }
              ints := { s.ints with cmdDone := true } })

/-- R8, R66, R171: CH_ENABLE in DISABLED makes the channel ACTIVE when its descriptor is legal, and ends with BAD_DESC
and no change when it is not; in any other state it ends with WRONG_STATE and no change. R67: CH_RESUME makes a FAULTED
channel ACTIVE and changes nothing else of it; in any other state it ends with WRONG_STATE and no change. -/
def Obligations.ChEnableAndResume : Prop :=
  (∀ (c : Chan) (channel : BitVec 4) (page : BitVec 14) (s : State), CommandReady s → channel.toNat = c.val →
      ((s.chan c).state = .disabled →
          1 ≤ (s.chan c).desc.mapLength.toNat ∧ (s.chan c).desc.mapLength.toNat ≤ 8192 ∧
              1 ≤ (s.chan c).desc.quota.toNat ∧ (s.chan c).desc.quota.toNat ≤ 16 ∧
              (s.chan c).desc.mapOrigin.toNat + 4 * (s.chan c).desc.mapLength.toNat ≤ 2 ^ 32 →
            exec (.chEnable channel page) s =
              .next ((s.modChan c fun ch => { ch with state := .active }).completeCommand .chEnable channel page .ok)) ∧
        ((s.chan c).state = .disabled →
          ¬ (1 ≤ (s.chan c).desc.mapLength.toNat ∧ (s.chan c).desc.mapLength.toNat ≤ 8192 ∧
              1 ≤ (s.chan c).desc.quota.toNat ∧ (s.chan c).desc.quota.toNat ≤ 16 ∧
              (s.chan c).desc.mapOrigin.toNat + 4 * (s.chan c).desc.mapLength.toNat ≤ 2 ^ 32) →
            exec (.chEnable channel page) s = .next (s.completeCommand .chEnable channel page .badDesc)) ∧
        ((s.chan c).state ≠ .disabled →
          exec (.chEnable channel page) s = .next (s.completeCommand .chEnable channel page .wrongState))) ∧
  (∀ (c : Chan) (channel : BitVec 4) (page : BitVec 14) (s : State), CommandReady s → channel.toNat = c.val →
      ((s.chan c).state = .faulted →
          exec (.chResume channel page) s =
            .next ((s.modChan c fun ch => { ch with state := .active }).completeCommand .chResume channel page .ok)) ∧
        ((s.chan c).state ≠ .faulted →
          exec (.chResume channel page) s = .next (s.completeCommand .chResume channel page .wrongState)))

/-- R65, R68, R69, R38, R160: CH_DISABLE makes an ACTIVE or FAULTED channel DRAINING, its buffer flushed, its read-ahead
line dropped and its transaction kept; when the drain condition already holds it reaches DISABLED in the same happening,
its translation cache entries dropped and its CHANNEL_OFF raised. In any other state it ends with WRONG_STATE. -/
def Obligations.ChDisable : Prop :=
  ∀ (c : Chan) (channel : BitVec 4) (page : BitVec 14) (s : State),
    CommandReady s → channel.toNat = c.val → SettledLaw s →
    ((s.chan c).state = .active ∨ (s.chan c).state = .faulted →
        ∃ t, exec (.chDisable channel page) s = .next t ∧ Flushed s t c ∧
          (∀ d, d ≠ c → t.chan d = s.chan d) ∧
          t.cmd = { busy := false, command := some .chDisable, channel, page, outcome := .ok } ∧
          (if s.drainReady c = true then
            t.chan c = { s.chan c with state := .disabled, readAhead := none } ∧
              Dropped s.tc t.tc (fun e => e.chan = c) ∧
              t.ints =
                { s.ints with cmdDone := true, channelOff := s.ints.channelOff ||| BitVec.ofNat 8 (2 ^ c.val) }
          else
            t.chan c = { s.chan c with state := .draining, readAhead := none, buffer := (t.chan c).buffer } ∧
              t.tc = s.tc ∧ t.ints = { s.ints with cmdDone := true }) ∧
          t = { s with chans := t.chans, inv := t.inv, tc := t.tc, ints := t.ints, cmd := t.cmd }) ∧
      ((s.chan c).state ≠ .active → (s.chan c).state ≠ .faulted →
        exec (.chDisable channel page) s = .next (s.completeCommand .chDisable channel page .wrongState))

/-- R70, R54, R49, R80, R91, R99, R125, R133: CH_ABORT of an ACTIVE, FAULTED or DRAINING channel. Its transaction is answered
STOPPED. In WAIT_WALK its place in the walk wait queue is removed, its issued slot is discard-marked, and its unissued slot
has its request withdrawn and frees: the queue head takes it. A FILLING or PENDING buffer is discarded, EMPTY with every
field cleared, its own reservation among them; it leaves the waiters, and a place it held goes to the head waiter or becomes
free; a WRITING one is kept. The read-ahead line is dropped, a requested line read is withdrawn and an issued one
discard-marked. The queued invalidate entries and the requests held at the port are kept. It
reaches DISABLED at once when no cycle of it is outstanding (R71), its translation cache entries then dropped and its
CHANNEL_OFF raised, else it is ABORTING. In DISABLED and ABORTING the outcome is OK and nothing changes. -/
def Obligations.ChAbort : Prop :=
  ∀ (c : Chan) (channel : BitVec 4) (page : BitVec 14) (s : State), CommandReady s → channel.toNat = c.val →
    ((s.chan c).state = .active ∨ (s.chan c).state = .faulted ∨ (s.chan c).state = .draining →
        ∃ t, exec (.chAbort channel page) s = .next t ∧
          t.cmd = { busy := false, command := some .chAbort, channel, page, outcome := .ok } ∧
          (t.chan c).txn = none ∧
          (t.chan c).answers =
            (if (s.chan c).txn = none then (s.chan c).answers else (s.chan c).answers ++ [.stopped]) ∧
          ((∀ x, (s.chan c).txn = some x → x.phase ≠ .waitWalk) → t.walk = s.walk) ∧
          (∀ x, (s.chan c).txn = some x → x.phase = .waitWalk →
            let left : State := { s with walk := { s.walk with queue := s.walk.queue.filter fun q => q.chan ≠ c } }
            (s.inSlot c = false → t.walk = left.walk) ∧
            ∀ i : Fin 2, ∀ w, s.walk.slots[i] = some w → w.chan = c →
              (∀ j : Fin 2, ∀ v, s.walk.slots[j] = some v → v.chan = c → j = i) →
                (w.issued = true →
                  t.walk = { left.walk with slots := s.walk.slots.set i (some { w with discard := true }) }) ∧
                (w.issued = false →
                  SlotFreed
                    { left with walk := { left.walk with requests := s.walk.requests.filter fun j => j ≠ i } } t i)) ∧
          ((s.chan c).buffer.state = .writing ∨ (s.chan c).buffer.state = .empty →
            (t.chan c).buffer = (s.chan c).buffer) ∧
          ((s.chan c).buffer.state = .filling ∨ (s.chan c).buffer.state = .pending →
            (t.chan c).buffer = Buffer.cleared) ∧
          ((s.chan c).buffer.state ≠ .writing → (t.chan c).buffer.state = .empty) ∧
          ((s.chan c).buffer.state = .filling ∨ (s.chan c).buffer.state = .pending →
            let others := s.inv.waiters.filter fun d => d ≠ c
            c ∉ t.inv.waiters ∧
              (∀ d rest, (s.chan c).buffer.reservation = .held → PlacesLaw s → others = d :: rest →
                t.inv.waiters = rest ∧
                  t.chan d = { s.chan d with buffer := { (s.chan d).buffer with reservation := .held } } ∧
                  (∀ e, e ≠ c → e ≠ d → t.chan e = s.chan e)) ∧
              ((s.chan c).buffer.reservation ≠ .held ∨ others = [] →
                t.inv.waiters = others ∧ (∀ d, d ≠ c → t.chan d = s.chan d))) ∧
          ((s.chan c).buffer.state = .empty ∨ (s.chan c).buffer.state = .writing →
            t.inv = s.inv ∧ (∀ d, d ≠ c → t.chan d = s.chan d)) ∧
          (t.chan c).readAhead = none ∧
          (t.chan c).lineRead =
            (match (s.chan c).lineRead with
            | some r => if r.issued = true then some { r with discard := true } else none
            | none => none) ∧
          (t.chan c).desc = (s.chan c).desc ∧ (t.chan c).held = (s.chan c).held ∧
          t.inv.entries = s.inv.entries ∧
          (if t.inSlot c = false ∧ (t.chan c).lineRead = none ∧ (t.chan c).buffer.state ≠ .writing then
            (t.chan c).state = .disabled ∧ Dropped s.tc t.tc (fun e => e.chan = c) ∧
              t.ints = { s.ints with cmdDone := true, channelOff := s.ints.channelOff ||| BitVec.ofNat 8 (2 ^ c.val) }
          else
            (t.chan c).state = .aborting ∧ t.tc = s.tc ∧ t.ints = { s.ints with cmdDone := true }) ∧
          (∀ d, d ≠ c →
            t.chan d =
              { s.chan d with
                buffer := { (s.chan d).buffer with reservation := (t.chan d).buffer.reservation } }) ∧
          t = { s with chans := t.chans, tc := t.tc, walk := t.walk, inv := t.inv, ints := t.ints, cmd := t.cmd }) ∧
      ((s.chan c).state = .disabled ∨ (s.chan c).state = .aborting →
        exec (.chAbort channel page) s = .next (s.completeCommand .chAbort channel page .ok))

/-- R22, R169 to R171: an XLAT command that passes its tests makes the unit BUSY, which is its claim on the TC port; the
record names it and keeps the previous outcome. R116: TAGS_CLEAR starts a sweep from set 0 in IDLE, changing no entry, and
ends with WRONG_STATE in CLEARING. -/
def Obligations.XlatClaimAndTagsClear : Prop :=
  (∀ (n : CommandName) (channel : BitVec 4) (page : BitVec 14) (s : State), CommandReady s →
      ((n = .xlatFlushPage ∨ n = .xlatProbe) ∧ channel.toNat < 8 ∧ page.toNat < 8192) ∨
          (n = .xlatFlushChannel ∧ channel.toNat < 8) ∨ n = .xlatFlushAll →
        exec (n.instr channel page) s =
          .next { s with
            cmd := { busy := true, command := some n, channel, page, outcome := s.cmd.outcome } }) ∧
  (∀ (channel : BitVec 4) (page : BitVec 14) (s : State), CommandReady s →
      (s.shadow.state = .idle →
          exec (.tagsClear channel page) s =
            .next (({ s with shadow := { s.shadow with state := .clearing, pointer := 0 } } : State).completeCommand
              .tagsClear channel page .ok)) ∧
        (s.shadow.state = .clearing →
          exec (.tagsClear channel page) s = .next (s.completeCommand .tagsClear channel page .wrongState)))

/-! ## The TC port and the translation cache -/

/-- R22, R23: the port serves, of the requesters with a claim, the first in the cyclic order after the last-served one,
which becomes the last-served; with no claim it serves nothing. A requester whose claim is passed over stands closer to its
turn, so it waits for at most eight services. (That LOOKUP_SERVICE and COMMAND_SERVICE do nothing when the next claim is
of the other kind is the model's choice, log entry 9.) -/
def Obligations.PortServesInTurn : Prop :=
  (∀ s : State, s.resetHeld = false →
      ((∀ u, s.claims u = false) → exec .lookupService s = .next s ∧ exec .commandService s = .next s) ∧
        (∀ c, NextServed s (.channel c) →
          exec .commandService s = .next s ∧
            ∃ t, exec .lookupService s = .next t ∧ t.tc.lastServed = .channel c ∧ s.claims (.channel c) = true) ∧
        (NextServed s .commandUnit →
          exec .lookupService s = .next s ∧
            ∃ t, exec .commandService s = .next t ∧ t.tc.lastServed = .commandUnit ∧ s.cmd.busy = true) ∧
        ((∃ u, s.claims u = true) → ∃ u, NextServed s u)) ∧
  (∀ (s : State) (u v : PortUser), NextServed s v → s.claims u = true → u ≠ v →
      portWait v u < portWait s.tc.lastServed u ∧ portWait s.tc.lastServed u ≤ 8)

/-- R27, R43: a lookup that misses moves the transaction to WAIT_WALK and gives it walk slot 0 if idle, else slot 1 if
idle, with its WALK read requested, else the tail of the walk wait queue; entries and recency list stay. -/
def Obligations.LookupMiss : Prop :=
  ∀ (c : Chan) (x : Transaction) (access : Access) (addr : ChanAddr) (size : Size) (s : State),
    s.resetHeld = false → NextServed s (.channel c) → (s.chan c).txn = some x →
      x.request.access? = some (access, addr, size) →
      (∀ i : Fin 16, ∀ e, s.tc.entries[i] = some e → ¬ (e.chan = c ∧ e.page = pageOf addr)) →
        let walk : Walk :=
          { chan := c, page := pageOf addr
            entryAddr := BitVec.ofNat 32 ((s.chan c).desc.mapOrigin.toNat + 4 * (addr.toNat / 2048))
            issued := false, stale := false, discard := false }
        ∃ t, exec .lookupService s = .next t ∧
          t.walk =
            (if s.walk.slots[(0 : Fin 2)] = none then
              { s.walk with slots := s.walk.slots.set 0 (some walk), requests := s.walk.requests ++ [0] }
            else if s.walk.slots[(1 : Fin 2)] = none then
              { s.walk with slots := s.walk.slots.set 1 (some walk), requests := s.walk.requests ++ [1] }
            else { s.walk with queue := s.walk.queue ++ [{ chan := c, page := pageOf addr }] }) ∧
          (t.chan c) = { s.chan c with txn := some { x with phase := .waitWalk } } ∧
          (∀ d, d ≠ c → t.chan d = s.chan d) ∧
          t = { s with chans := t.chans, walk := t.walk, tc := { s.tc with lastServed := .channel c } }

/-- R17, R26, R73, R75, R69: a hit whose right is clear moves its entry to the most-recent end, and the transaction faults
NO_READ or NO_WRITE, in every channel state; in DRAINING its answer may complete the drain. R26, R94: a hit of a READ with RD
set, whose line its channel's buffer does not hold: an ACTIVE channel with read-ahead enabled and that line held answers DONE
with its bytes; otherwise a line read is requested and the READ waits in WAIT_READ. R94, R62, R83, R76: a hit of a READ with
RD set in every channel state, whatever its channel's buffer holds: one whose line the buffer holds waits in WAIT_BUFFER, a
FILLING buffer being flushed. -/
def Obligations.LookupHitRefusedOrRead : Prop :=
  (∀ (c : Chan) (x : Transaction) (access : Access) (addr : ChanAddr) (size : Size) (i : Fin 16) (e : TcEntry) (s : State),
      s.resetHeld = false → NextServed s (.channel c) → OneTranslationLaw s → (s.chan c).txn = some x →
        x.request.access? = some (access, addr, size) →
        s.tc.entries[i] = some e → e.chan = c → e.page = pageOf addr →
        (match access with
          | .read => e.xlat.rd = false
          | .write => e.xlat.wr = false) →
          ∃ u t, exec .lookupService s = .next t ∧
            FaultTaken
              { s with tc := { s.tc with lastServed := .channel c, recency := i :: s.tc.recency.erase i } } u c access addr
              (match access with
                | .read => .noRead
                | .write => .noWrite)
              .fault ∧
            ConditionsTested u t c ∧ ((s.chan c).state = .active ∨ (s.chan c).state = .faulted → t = u)) ∧
  (∀ (c : Chan) (x : Transaction) (addr : ChanAddr) (size : Size) (i : Fin 16) (e : TcEntry) (s : State),
      s.resetHeld = false → NextServed s (.channel c) → OneTranslationLaw s →
        (s.chan c).state = .active → (s.chan c).txn = some x → x.request = .read addr size →
        s.tc.entries[i] = some e → e.chan = c → e.page = pageOf addr → e.xlat.rd = true →
        (s.chan c).buffer.state = .empty ∨
          (s.chan c).buffer.line ≠ lineOf (BitVec.ofNat 32 (e.xlat.frame.toNat * 2048 + addr.toNat % 2048)) →
          let line := lineOf (BitVec.ofNat 32 (e.xlat.frame.toNat * 2048 + addr.toNat % 2048))
          let s' := { s with tc := { s.tc with lastServed := .channel c, recency := i :: s.tc.recency.erase i } }
          (∀ d, (s.chan c).readAhead = some { line := line, data := d } → (s.chan c).desc.readAhead = true →
              exec .lookupService s =
                .next (s'.modChan c fun ch =>
                  { ch with txn := none, answers := ch.answers ++ [.done (bytesAt d (posOf addr) size.bytes)] })) ∧
            ((∀ d, (s.chan c).readAhead ≠ some { line := line, data := d }) ∨ (s.chan c).desc.readAhead = false →
              exec .lookupService s =
                .next (s'.modChan c fun ch =>
                  { ch with
                    lineRead := some { line := line, issued := false, stalePending := false, discard := false }
                    txn := some
                      { x with
                        phase := .waitRead
                        translation := some { line := line, pos := posOf addr, coh := e.xlat.coh } } }))) ∧
  (∀ (c : Chan) (x : Transaction) (addr : ChanAddr) (size : Size) (i : Fin 16) (e : TcEntry) (s : State),
      s.resetHeld = false → NextServed s (.channel c) → OneTranslationLaw s →
        (s.chan c).txn = some x → x.request = .read addr size →
        s.tc.entries[i] = some e → e.chan = c → e.page = pageOf addr → e.xlat.rd = true →
          ∃ u t, exec .lookupService s = .next t ∧
            ReadReached { s with tc := { s.tc with lastServed := .channel c, recency := i :: s.tc.recency.erase i } } u c
              size (boundTo e.xlat addr) ∧
            ConditionsTested u t c ∧ ((s.chan c).state = .active ∨ (s.chan c).state = .faulted → t = u))

/-- R26, R62, R81, R82: a hit of a WRITE with WR set that finds its ACTIVE channel's buffer EMPTY opens it: FILLING with
the WRITE's line, bytes, mask, COH and line start, its timer loaded; the WRITE is answered DONE. R62, R76, R81 to R83: a hit
of a WRITE with WR set in every channel state, whatever its channel's buffer holds: merged, or waiting in WAIT_BUFFER; in
DRAINING its answer may complete the drain (R69). -/
def Obligations.LookupHitWrite : Prop :=
  (∀ (c : Chan) (x : Transaction) (addr : ChanAddr) (data : WriteData) (i : Fin 16) (e : TcEntry) (s : State),
      s.resetHeld = false → NextServed s (.channel c) → OneTranslationLaw s →
        (s.chan c).state = .active → (s.chan c).txn = some x → x.request = .write addr data →
        s.tc.entries[i] = some e → e.chan = c → e.page = pageOf addr → e.xlat.wr = true →
        (s.chan c).buffer.state = .empty → addr.toNat % data.size.bytes = 0 →
          ∃ t, exec .lookupService s = .next t ∧
            (t.chan c).buffer.state = .filling ∧
            (t.chan c).buffer.line = lineOf (BitVec.ofNat 32 (e.xlat.frame.toNat * 2048 + addr.toNat % 2048)) ∧
            (∀ k : Fin 16,
              (addr.toNat % 16 ≤ k.val ∧ k.val < addr.toNat % 16 + data.size.bytes →
                (t.chan c).buffer.mask[k] = true ∧
                  data.toList[k.val - addr.toNat % 16]? = some (t.chan c).buffer.data[k]) ∧
              (¬ (addr.toNat % 16 ≤ k.val ∧ k.val < addr.toNat % 16 + data.size.bytes) →
                (t.chan c).buffer.mask[k] = false ∧ (t.chan c).buffer.data[k] = 0)) ∧
            (t.chan c).buffer.coh = e.xlat.coh ∧
            (t.chan c).buffer.lineStart.toNat = addr.toNat / 16 * 16 ∧
            (t.chan c).buffer.reservation = .none ∧
            (t.chan c).buffer.timer = (s.chan c).desc.idleTimeout.toNat ∧
            t.chan c =
              { s.chan c with
                txn := none, answers := (s.chan c).answers ++ [.done []], buffer := (t.chan c).buffer } ∧
            (∀ d, d ≠ c → t.chan d = s.chan d) ∧
            t = { s with
              chans := t.chans
              tc := { s.tc with lastServed := .channel c, recency := i :: s.tc.recency.erase i } }) ∧
  (∀ (c : Chan) (x : Transaction) (addr : ChanAddr) (data : WriteData) (i : Fin 16) (e : TcEntry) (s : State),
      s.resetHeld = false → NextServed s (.channel c) → OneTranslationLaw s →
        (s.chan c).txn = some x → x.request = .write addr data →
        s.tc.entries[i] = some e → e.chan = c → e.page = pageOf addr → e.xlat.wr = true →
          ∃ u t, exec .lookupService s = .next t ∧
            WriteReached { s with tc := { s.tc with lastServed := .channel c, recency := i :: s.tc.recency.erase i } } u c
              addr data (boundTo e.xlat addr) ∧
            ConditionsTested u t c ∧ ((s.chan c).state = .active ∨ (s.chan c).state = .faulted → t = u))

/-- R81, R82, R76: what a WRITE that reaches its channel's buffer with a translation does: merged and answered DONE by an
EMPTY buffer (which it opens) or a FILLING one of its line, the bytes over those already there and COH added, the buffer
PENDING at once, with its reservation decision, if its mask is full or its channel is not ACTIVE; otherwise it waits in
WAIT_BUFFER with its translation, a FILLING buffer of another line being flushed. -/
def Obligations.WriteReachesBuffer : Prop :=
  ∀ (c : Chan) (addr : ChanAddr) (data : WriteData) (tr : Translation) (s : State),
    WriteReached s (s.placeWrite c addr data tr) c addr data tr

/-- R34 to R36, R51: a flush service drops the entries in its scope, stale-marks the issued walks in its scope, and
completes the command with OK. R39: a probe service reports the entry of the channel and page, or a miss with every field
clear, leaves the entries and the recency list, and completes the command with OK. -/
def Obligations.CommandServed : Prop :=
  (∀ (n : CommandName) (s : State), s.resetHeld = false → NextServed s .commandUnit → s.cmd.command = some n →
      (n ≠ .xlatFlushAll → s.cmd.channel.toNat < 8) → (n = .xlatFlushPage → s.cmd.page.toNat < 8192) →
      let inScope : Chan → Page → Prop := fun c p =>
        match n with
        | .xlatFlushPage => c.val = s.cmd.channel.toNat ∧ p.toNat = s.cmd.page.toNat
        | .xlatFlushChannel => c.val = s.cmd.channel.toNat
        | .xlatFlushAll => True
        | .xlatProbe | .chEnable | .chDisable | .chResume | .chAbort | .tagsClear => False
      n = .xlatFlushPage ∨ n = .xlatFlushChannel ∨ n = .xlatFlushAll →
        ∃ t, exec .commandService s = .next t ∧
          Dropped { s.tc with lastServed := .commandUnit } t.tc (fun e => inScope e.chan e.page) ∧
          (∀ i : Fin 2, ∀ w, s.walk.slots[i] = some w →
            (w.issued = true ∧ inScope w.chan w.page → t.walk.slots[i] = some { w with stale := true }) ∧
            (¬ (w.issued = true ∧ inScope w.chan w.page) → t.walk.slots[i] = some w)) ∧
          (∀ i : Fin 2, s.walk.slots[i] = none → t.walk.slots[i] = none) ∧
          t = { s with
            tc := t.tc
            walk := { s.walk with slots := t.walk.slots }
            cmd := { s.cmd with busy := false, outcome := .ok }
            ints := { s.ints with cmdDone := true } }) ∧
  (∀ s : State, s.resetHeld = false → NextServed s .commandUnit → s.cmd.command = some .xlatProbe →
      s.cmd.channel.toNat < 8 → s.cmd.page.toNat < 8192 → OneTranslationLaw s →
        let completed : ProbeResult → State := fun r =>
          { s with
            tc := { s.tc with lastServed := .commandUnit, probe := r }
            cmd := { s.cmd with busy := false, outcome := .ok }
            ints := { s.ints with cmdDone := true } }
        (∀ (i : Fin 16) (e : TcEntry), s.tc.entries[i] = some e → e.chan.val = s.cmd.channel.toNat →
            e.page.toNat = s.cmd.page.toNat →
              exec .commandService s = .next (completed { hit := true, entry := i, xlat := e.xlat })) ∧
          ((∀ (i : Fin 16) (e : TcEntry), s.tc.entries[i] = some e →
              ¬ (e.chan.val = s.cmd.channel.toNat ∧ e.page.toNat = s.cmd.page.toNat)) →
            exec .commandService s =
              .next (completed
                { hit := false, entry := 0, xlat := { frame := 0, rd := false, wr := false, coh := false } })))

/-- R29, R30: where an install goes: over the entry that already carries its channel and page; else, when the channel
holds its quota, over its own least-recent entry; else into the lowest-numbered free entry; else over the least-recent
entry of all. That entry becomes most recent, and no other entry changes. -/
def Obligations.InstallPlace : Prop :=
  ∀ (s : State) (e : TcEntry) (quota : Nat), OneTranslationLaw s → RecencyLaw s → 1 ≤ quota →
    let held := fun i : Fin 16 => ∃ x : TcEntry, s.tc.entries[i] = some x ∧ x.chan = e.chan
    let count := ((List.finRange 16).filter fun i => s.tc.entries[i].any fun x => x.chan == e.chan).length
    let t := s.tc.install e quota
    ∃ i : Fin 16,
      t = { s.tc with entries := s.tc.entries.set i (some e), recency := i :: s.tc.recency.erase i } ∧
        ((∃ (j : Fin 16) (x : TcEntry), s.tc.entries[j] = some x ∧ x.chan = e.chan ∧ x.page = e.page) →
          ∃ x : TcEntry, s.tc.entries[i] = some x ∧ x.chan = e.chan ∧ x.page = e.page) ∧
        ((∀ (j : Fin 16) (x : TcEntry), s.tc.entries[j] = some x → ¬ (x.chan = e.chan ∧ x.page = e.page)) →
          (count = quota → held i ∧
            ∀ j, held j → j ≠ i → s.tc.recency.idxOf j < s.tc.recency.idxOf i) ∧
          (count ≠ quota → (∃ j : Fin 16, s.tc.entries[j] = none) →
            s.tc.entries[i] = none ∧ ∀ j : Fin 16, s.tc.entries[j] = none → i ≤ j) ∧
          (count ≠ quota → (∀ j : Fin 16, s.tc.entries[j] ≠ none) →
            ∀ j, j ≠ i → s.tc.recency.idxOf j < s.tc.recency.idxOf i))

/-! ## Walks -/

/-- R45 to R49, R29, R31, R11: a walk read that returns a word with VALID set to a slot neither discarded nor stale installs
the word's fields for the slot's channel and page, frees the slot, and takes the transaction out of WAIT_WALK. R17, R31, R46:
the permission check on the installed fields follows: NO_READ, NO_WRITE, the read path or the buffer, in every channel
state; in DRAINING its answer may complete the drain (R69). -/
def Obligations.WalkInstalls : Prop :=
  ∀ (id : Nat) (i : Fin 2) (w : Walk) (word : Word) (x : Transaction) (a : Access × ChanAddr × Size) (s : State),
    s.resetHeld = false → s.bridge = .running → s.bus.recordOf id = some { id, requester := .walk i } →
      s.walk.slots[i] = some w → w.issued = true → w.discard = false → w.stale = false → word.getLsbD 0 = true →
      (s.chan w.chan).txn = some x → x.request.access? = some a →
        let xlat : Xlat :=
          { frame := BitVec.ofNat 21 (word.toNat / 2048), rd := word.getLsbD 1, wr := word.getLsbD 2
            coh := word.getLsbD 3 }
        ∃ u t, exec (.walkDataReturn id (.word word)) s = .next t ∧
          SlotFreed s t i ∧
          PermissionChecked
            { s.freeRecord id with
              tc := s.tc.install { chan := w.chan, page := w.page, xlat := xlat } (s.chan w.chan).desc.quota.toNat
              walk := t.walk }
            u w.chan xlat ∧
          ConditionsTested u t w.chan ∧
          ((s.chan w.chan).state = .active ∨ (s.chan w.chan).state = .faulted → t = u) ∧
          (∀ y, (t.chan w.chan).txn = some y → y.phase ≠ .waitWalk) ∧
          (∀ d, d ≠ w.chan → t.chan d = s.chan d) ∧
          t = { s.freeRecord id with
            chans := t.chans, tc := t.tc, walk := t.walk, inv := t.inv, log := t.log, ints := t.ints }

/-- R47, R48, R49, R73: a walk read that returns, to a slot neither discarded nor stale, a word with VALID clear faults
NOT_VALID, and one that ends in a bus error faults MAP_BUS_ERR, in every channel state; nothing is installed and the slot
frees; in DRAINING the answer may complete the drain (R75, R69). R45, R52: the read
of a stale slot that is not discarded is set aside, word or bus error, and made again: the slot stays busy, not issued and
not stale, with a new WALK read requested behind those that stand. -/
def Obligations.WalkFaultsOrReReads : Prop :=
  (∀ (id : Nat) (i : Fin 2) (w : Walk) (result : WalkResult) (x : Transaction) (access : Access) (addr : ChanAddr)
      (size : Size) (s : State),
      s.resetHeld = false → s.bridge = .running → s.bus.recordOf id = some { id, requester := .walk i } →
        s.walk.slots[i] = some w → w.issued = true → w.discard = false → w.stale = false →
        (∀ word, result = .word word → word.getLsbD 0 = false) →
        (s.chan w.chan).txn = some x → x.request.access? = some (access, addr, size) →
          ∃ u t, exec (.walkDataReturn id result) s = .next t ∧ SlotFreed s t i ∧
            FaultTaken { s.freeRecord id with walk := t.walk } u w.chan access addr
              (match result with
                | .word _ => .notValid
                | .busError => .mapBusErr)
              .fault ∧
            ConditionsTested u t w.chan ∧
            ((s.chan w.chan).state = .active ∨ (s.chan w.chan).state = .faulted → t = u)) ∧
  (∀ (id : Nat) (i : Fin 2) (w : Walk) (result : WalkResult) (s : State),
      s.resetHeld = false → s.bridge = .running → s.bus.recordOf id = some { id, requester := .walk i } →
        s.walk.slots[i] = some w → w.issued = true → w.discard = false → w.stale = true →
          exec (.walkDataReturn id result) s =
            .next { s.freeRecord id with
              walk :=
                { s.walk with
                  slots := s.walk.slots.set i (some { w with issued := false, stale := false })
                  requests := s.walk.requests ++ [i] } })

/-- R55, R96, R71: the data return of a discarded walk or of a discarded line read is set aside: no answer, no fault, no
install; the slot or the record frees, and an ABORTING channel with no cycle left outstanding reaches DISABLED. -/
def Obligations.DiscardedReadSetAside : Prop :=
  ∀ (id : Nat) (c : Chan) (s : State), s.resetHeld = false → SettledLaw s → (s.chan c).state ≠ .draining →
    (∀ (i : Fin 2) (w : Walk) (result : WalkResult), s.bus.recordOf id = some { id, requester := .walk i } →
        s.walk.slots[i] = some w → w.chan = c → w.issued = true → w.discard = true →
          ∃ t, exec (.walkDataReturn id result) s = .next t ∧ SlotFreed s t i ∧ AbortTested s t c ∧
            t.chan c = { s.chan c with state := (t.chan c).state } ∧ (∀ d, d ≠ c → t.chan d = s.chan d) ∧
            t = { s.freeRecord id with
              chans := t.chans, tc := t.tc, walk := t.walk, ints := t.ints, bridge := t.bridge }) ∧
      (∀ (r : LineRead) (result : LineResult), s.bus.recordOf id = some { id, requester := .read c } →
        (s.chan c).lineRead = some r → r.issued = true → r.discard = true →
          ∃ t, exec (.lineReadDataReturn id result) s = .next t ∧ AbortTested s t c ∧
            t.chan c = { s.chan c with state := (t.chan c).state, lineRead := none } ∧
            (∀ d, d ≠ c → t.chan d = s.chan d) ∧
            t = { s.freeRecord id with chans := t.chans, tc := t.tc, ints := t.ints, bridge := t.bridge })

/-! ## Line reads -/

/-- R96, R59: the data of a line read answers its READ DONE with the bytes at its positions; the line is retained as the
read-ahead line when the channel is ACTIVE, read-ahead is enabled and stale-pending is clear. R96, R73, R75: a line read that
ends in a bus error answers its READ DATA_ERROR and records READ_BUS_ERR. Both in every channel state; in DRAINING the answer
may complete the drain (R69). -/
def Obligations.LineReadReturns : Prop :=
  (∀ (id : Nat) (c : Chan) (r : LineRead) (d : LineData) (x : Transaction) (addr : ChanAddr) (size : Size)
      (tr : Translation) (s : State),
      s.resetHeld = false → s.bridge = .running → s.bus.recordOf id = some { id, requester := .read c } →
        (s.chan c).lineRead = some r → r.issued = true → r.discard = false →
        (s.chan c).txn = some x → x.request = .read addr size → x.translation = some tr →
          let u := (s.freeRecord id).modChan c fun ch =>
            { ch with
              txn := none
              answers := ch.answers ++ [.done ((d.toList.drop tr.pos.toNat).take size.bytes)]
              lineRead := none
              readAhead :=
                if ch.state = .active ∧ ch.desc.readAhead = true ∧ r.stalePending = false then
                  some { line := r.line, data := d }
                else ch.readAhead }
          ∃ t, exec (.lineReadDataReturn id (.line d)) s = .next t ∧ ConditionsTested u t c ∧
            ((s.chan c).state = .active ∨ (s.chan c).state = .faulted → t = u)) ∧
  (∀ (id : Nat) (c : Chan) (r : LineRead) (x : Transaction) (addr : ChanAddr) (size : Size) (s : State),
      s.resetHeld = false → s.bridge = .running → s.bus.recordOf id = some { id, requester := .read c } →
        (s.chan c).lineRead = some r → r.issued = true → r.discard = false →
        (s.chan c).txn = some x → x.request = .read addr size →
          ∃ u t, exec (.lineReadDataReturn id .busError) s = .next t ∧
            FaultTaken ((s.freeRecord id).modChan c fun ch => { ch with lineRead := none }) u c .read addr .readBusErr
              .dataError ∧
            ConditionsTested u t c ∧ ((s.chan c).state = .active ∨ (s.chan c).state = .faulted → t = u))

/-! ## Line write acknowledges -/

/-- R89: an acknowledge without bus error of a line write that holds no reservation, with no transaction waiting, makes
the buffer EMPTY with every field cleared and changes nothing else. R89 step 4, R76: a WRITE in WAIT_BUFFER opens the
emptied buffer and is answered DONE, the buffer FILLING in ACTIVE and PENDING in FAULTED; a READ in WAIT_BUFFER goes on to
its read-ahead test, here to its line read. R89 whole, for an acknowledge without bus error: steps 2 to 5, in every channel
and bridge state, whatever the reservation and the pending transaction. -/
def Obligations.AckEmptiesAndRestarts : Prop :=
  (∀ (id : Nat) (c : Chan) (s : State),
      s.resetHeld = false → s.bridge = .running → s.bus.recordOf id = some { id, requester := .write c } →
        (s.chan c).buffer.state = .writing → (s.chan c).buffer.reservation ≠ .held →
        (s.chan c).state = .active ∨ (s.chan c).state = .faulted → (s.chan c).txn = none →
          exec (.lineWriteAcknowledge id .ok) s =
            .next ((s.freeRecord id).modChan c fun ch =>
              { ch with
                buffer :=
                  { state := .empty, line := 0, data := Vector.replicate 16 0, mask := Vector.replicate 16 false
                    coh := false, lineStart := 0, reservation := .none, timer := 0 } })) ∧
  (∀ (id : Nat) (c : Chan) (x : Transaction) (tr : Translation) (s : State),
      s.resetHeld = false → s.bridge = .running → s.bus.recordOf id = some { id, requester := .write c } →
        (s.chan c).buffer.state = .writing → (s.chan c).buffer.reservation ≠ .held →
        (s.chan c).state = .active ∨ (s.chan c).state = .faulted → (s.chan c).txn = some x →
        x.phase = .waitBuffer → x.translation = some tr →
          (∀ addr data, x.request = .write addr data →
            ∃ t, exec (.lineWriteAcknowledge id .ok) s = .next t ∧
              (t.chan c).buffer.line = tr.line ∧ (t.chan c).buffer.lineStart = lineStartOf addr ∧
              (t.chan c).buffer.coh = tr.coh ∧
              (t.chan c).buffer.state = (if (s.chan c).state = .active then .filling else .pending) ∧
              t.chan c =
                { s.chan c with
                  txn := none, answers := (s.chan c).answers ++ [.done []], buffer := (t.chan c).buffer } ∧
              (∀ d, d ≠ c → t.chan d = s.chan d) ∧ t = { s.freeRecord id with chans := t.chans, inv := t.inv }) ∧
          (∀ addr size, x.request = .read addr size → (s.chan c).readAhead = none →
            exec (.lineWriteAcknowledge id .ok) s =
              .next ((s.freeRecord id).modChan c fun ch =>
                { ch with
                  buffer := Buffer.cleared
                  lineRead := some { line := tr.line, issued := false, stalePending := false, discard := false }
                  txn := some { x with phase := .waitRead } }))) ∧
  (∀ (id : Nat) (c : Chan) (s : State),
      s.resetHeld = false → PlacesLaw s → s.bus.recordOf id = some { id, requester := .write c } →
        (s.chan c).buffer.state = .writing →
          ∃ t, exec (.lineWriteAcknowledge id .ok) s = .next t ∧
            Acknowledged { s.freeRecord id with bridge := t.bridge } t c)

/-- R89 step 2, R109 to R114, R127, R128: the acknowledge of a line write that holds a reservation, OK or with a bus error,
in every channel and bridge state: when the shadow lookup's result is queue, the writer joins the unissued entry of its
line, or a new entry is appended; when it is release, the entries stay. Under TRACK every matching entry of the store
is cleared, and nothing else of the store changes. -/
def Obligations.AckResolvesReservation : Prop :=
  ∀ (id : Nat) (c : Chan) (ack : Ack) (s : State),
    s.resetHeld = false → s.bus.recordOf id = some { id, requester := .write c } →
      (s.chan c).buffer.state = .writing → (s.chan c).buffer.reservation = .held →
        let line := (s.chan c).buffer.line
        ∃ t, exec (.lineWriteAcknowledge id ack) s = .next t ∧
          (LookupQueues s line → (∃ e ∈ s.inv.entries, e.line = line ∧ e.issued = false) →
            t.inv.entries = s.inv.entries.map fun e =>
              if e.line = line ∧ e.issued = false then
                { e with chans := if c ∈ e.chans then e.chans else e.chans ++ [c] }
              else e) ∧
          (LookupQueues s line → (¬ ∃ e ∈ s.inv.entries, e.line = line ∧ e.issued = false) →
            t.inv.entries = s.inv.entries ++ [{ line := line, chans := [c], issued := false }]) ∧
          (¬ LookupQueues s line → t.inv.entries = s.inv.entries) ∧
          (∀ (set : Fin 256) (w : Way),
            t.shadow.sets[set][w] =
              if s.shadow.mode = .track ∧ set = setOf line ∧ s.shadow.wayMask.getLsbD w.val = true ∧
                (s.shadow.sets[set][w].any fun e => e.tag == tagOf line) = true then none
              else s.shadow.sets[set][w]) ∧
          t.shadow = { s.shadow with sets := t.shadow.sets } ∧
          (∀ d, d ≠ c →
            t.chan d =
              { s.chan d with
                buffer := { (s.chan d).buffer with reservation := (t.chan d).buffer.reservation } }) ∧
          t = { s.freeRecord id with
            bridge := t.bridge, chans := t.chans, tc := t.tc, shadow := t.shadow, inv := t.inv, log := t.log
            ints := t.ints }

/-- R112, the law: every coherent line write acknowledged, with or without bus error, under TRACK with a matching enabled
valid way or a pending KILL of its line, or under BROADCAST, leaves an invalidate for its line queued, with the writer's
channel in its set, in every channel and bridge state. -/
def Obligations.CoherentWriteOwesKill : Prop :=
  ∀ (id : Nat) (c : Chan) (ack : Ack) (s : State),
    s.resetHeld = false → s.bus.recordOf id = some { id, requester := .write c } →
      (s.chan c).buffer.state = .writing → (s.chan c).buffer.reservation = .held →
      LookupQueues s (s.chan c).buffer.line →
        ∃ t, exec (.lineWriteAcknowledge id ack) s = .next t ∧
          ∃ e ∈ t.inv.entries, e.line = (s.chan c).buffer.line ∧ c ∈ e.chans ∧ e.issued = false

/-- R125, R126: a reservation released at its acknowledge frees its place, which goes to the head waiter, whose buffer's
reservation becomes held, so that it requests its line write; the other waiters keep their order. R125, R131: so does the
place of a head entry removed at its KILL's acknowledge. R125 to R127: so does the place of every reservation that ends at
its acknowledge by release or by a merge, with or without a bus error, in every channel state and with every transaction
pending (a WRITE that opens the emptied buffer may then wait at the tail); the place of one that becomes a new entry goes to
no waiter. R125, R91, R133: so does the place of a PENDING buffer that CH_ABORT discards. -/
def Obligations.ReleasedPlaceGoesToHeadWaiter : Prop :=
  (∀ (id : Nat) (c d : Chan) (rest : List Chan) (s : State),
      s.resetHeld = false → PlacesLaw s → s.bus.recordOf id = some { id, requester := .write c } →
        (s.chan c).buffer.state = .writing → (s.chan c).buffer.reservation = .held → (s.chan c).txn = none →
        ¬ LookupQueues s (s.chan c).buffer.line → s.inv.waiters = d :: rest → d ≠ c →
          ∃ t, exec (.lineWriteAcknowledge id .ok) s = .next t ∧ t.inv = { s.inv with waiters := rest } ∧
            t.chan d = { s.chan d with buffer := { (s.chan d).buffer with reservation := .held } } ∧
            ((s.chan d).buffer.state = .pending → t.writeStands d = true) ∧
            (t.chan c).buffer = Buffer.cleared ∧ (∀ e, e ≠ c → e ≠ d → t.chan e = s.chan e)) ∧
  (∀ (id : Nat) (e : InvEntry) (d : Chan) (entries : List InvEntry) (waiters : List Chan) (ack : Ack) (s : State),
      s.resetHeld = false → PlacesLaw s → s.bus.recordOf id = some { id, requester := .kill } →
        s.inv.entries = e :: entries → e.issued = true → s.inv.waiters = d :: waiters →
          ∃ t, exec (.killAcknowledge id ack) s = .next t ∧ t.inv = { entries := entries, waiters := waiters } ∧
            (t.chan d).buffer = { (s.chan d).buffer with reservation := .held } ∧
            ((s.chan d).buffer.state = .pending → t.writeStands d = true) ∧
            (∀ c, c ≠ d → (t.chan c).buffer = (s.chan c).buffer)) ∧
  (∀ (id : Nat) (c d : Chan) (rest : List Chan) (ack : Ack) (s : State),
      s.resetHeld = false → PlacesLaw s → s.bus.recordOf id = some { id, requester := .write c } →
        (s.chan c).buffer.state = .writing → (s.chan c).buffer.reservation = .held →
        s.inv.waiters = d :: rest → d ≠ c →
          let line := (s.chan c).buffer.line
          let merges := ∃ e ∈ s.inv.entries, e.line = line ∧ e.issued = false
          ∃ t, exec (.lineWriteAcknowledge id ack) s = .next t ∧
            (¬ LookupQueues s line ∨ merges →
              t.chan d = { s.chan d with buffer := { (s.chan d).buffer with reservation := .held } } ∧
                ((s.chan d).buffer.state = .pending → t.writeStands d = true) ∧
                (∀ e, e ≠ c → e ≠ d → t.chan e = s.chan e) ∧
                t.inv.waiters = (if (t.chan c).buffer.reservation = .waiting then rest ++ [c] else rest)) ∧
            (LookupQueues s line → ¬ merges →
              (∀ e, e ≠ c → t.chan e = s.chan e) ∧
                t.inv.waiters =
                  (if (t.chan c).buffer.reservation = .waiting then s.inv.waiters ++ [c] else s.inv.waiters))) ∧
  (∀ (c d : Chan) (rest : List Chan) (channel : BitVec 4) (page : BitVec 14) (s : State),
      CommandReady s → channel.toNat = c.val → PlacesLaw s →
        (s.chan c).state = .active ∨ (s.chan c).state = .faulted ∨ (s.chan c).state = .draining →
        (s.chan c).buffer.state = .pending → (s.chan c).buffer.reservation = .held →
        s.inv.waiters = d :: rest → c ∉ s.inv.waiters →
          ∃ t, exec (.chAbort channel page) s = .next t ∧ t.inv = { s.inv with waiters := rest } ∧
            t.chan d = { s.chan d with buffer := { (s.chan d).buffer with reservation := .held } } ∧
            ((s.chan d).buffer.state = .pending → t.writeStands d = true) ∧
            (t.chan c).buffer = Buffer.cleared ∧ (∀ e, e ≠ c → e ≠ d → t.chan e = s.chan e))

/-- R64, R74, R90: an acknowledge with a bus error records WRITE_BUS_ERR at the buffer's line start; an ACTIVE channel enters
FAULTED and drops its read-ahead line; a pending SYNC has its write error seen field set, and if it is answered in this
happening it is answered FAULT. R75: in DRAINING, ABORTING and DISABLED the fault is recorded and the state kept; then, in
every channel and bridge state, steps 2 to 5 of R89 run as for an acknowledge without error: a WRITE or READ in WAIT_BUFFER
is taken again (R74, R76), and the drain and abort conditions are tested (R69, R71). -/
def Obligations.AckBusError : Prop :=
  (∀ (id : Nat) (c : Chan) (s : State),
      s.resetHeld = false → s.bus.recordOf id = some { id, requester := .write c } →
        (s.chan c).buffer.state = .writing →
        (s.chan c).state = .active ∨ (s.chan c).state = .faulted →
          ∃ t, exec (.lineWriteAcknowledge id .busError) s = .next t ∧
            Logged s t c .write (s.chan c).buffer.lineStart .writeBusErr ∧
            (t.chan c).state = .faulted ∧
            ((s.chan c).state = .active → (t.chan c).readAhead = none) ∧
            ((s.chan c).txn = none → (t.chan c).buffer = Buffer.cleared ∧ (t.chan c).txn = none) ∧
            (∀ x, (s.chan c).txn = some x → x.request = .sync →
              (t.chan c).buffer = Buffer.cleared ∧
                (((t.chan c).txn = some { x with writeErrorSeen := true } ∧
                    (t.chan c).answers = (s.chan c).answers) ∨
                  ((t.chan c).txn = none ∧ (t.chan c).answers = (s.chan c).answers ++ [.fault]))) ∧
            (∀ d, d ≠ c →
              t.chan d =
                { s.chan d with
                  buffer := { (s.chan d).buffer with reservation := (t.chan d).buffer.reservation } }) ∧
            t = { s.freeRecord id with
              bridge := t.bridge, chans := t.chans, shadow := t.shadow, inv := t.inv, log := t.log, ints := t.ints }) ∧
  (∀ (id : Nat) (c : Chan) (s : State),
      s.resetHeld = false → PlacesLaw s → s.bus.recordOf id = some { id, requester := .write c } →
        (s.chan c).buffer.state = .writing →
          ∃ u t, exec (.lineWriteAcknowledge id .busError) s = .next t ∧
            WriteErrorTaken { s.freeRecord id with bridge := t.bridge } u c ∧ Acknowledged u t c)

/-- R69, R38, R160: the acknowledge that makes the last part of a DRAINING channel's condition hold moves it to DISABLED,
drops its translation cache entries and adds it to the CHANNEL_OFF set. R71, R89 step 5: so does the acknowledge of the
WRITING buffer of an ABORTING channel that no walk slot holds and no line read of which is issued; while one of them still
is, the channel stays ABORTING with its buffer EMPTY. -/
def Obligations.AckCompletesDrain : Prop :=
  (∀ (id : Nat) (c : Chan) (s : State),
      s.resetHeld = false → s.bridge = .running → s.bus.recordOf id = some { id, requester := .write c } →
        (s.chan c).buffer.state = .writing → (s.chan c).buffer.reservation ≠ .held →
        (s.chan c).state = .draining → (s.chan c).txn = none → s.inSlot c = false → s.inWalkQueue c = false →
        (∀ e ∈ s.inv.entries, c ∉ e.chans) →
          ∃ t, exec (.lineWriteAcknowledge id .ok) s = .next t ∧
            t.chan c = { s.chan c with state := .disabled, buffer := Buffer.cleared } ∧
            Dropped s.tc t.tc (fun e => e.chan = c) ∧
            (∀ d, d ≠ c → t.chan d = s.chan d) ∧
            t = { s.freeRecord id with
              chans := t.chans
              tc := t.tc
              ints := { s.ints with channelOff := s.ints.channelOff ||| BitVec.ofNat 8 (2 ^ c.val) } }) ∧
  (∀ (id : Nat) (c : Chan) (s : State),
      s.resetHeld = false → s.bridge = .running → s.bus.recordOf id = some { id, requester := .write c } →
        (s.chan c).buffer.state = .writing → (s.chan c).buffer.reservation ≠ .held →
        (s.chan c).state = .aborting → (s.chan c).txn = none →
          (s.inSlot c = false → (∀ r, (s.chan c).lineRead = some r → r.issued = false) →
            ∃ t, exec (.lineWriteAcknowledge id .ok) s = .next t ∧
              t.chan c = { s.chan c with state := .disabled, buffer := Buffer.cleared } ∧
              Dropped s.tc t.tc (fun e => e.chan = c) ∧
              (∀ d, d ≠ c → t.chan d = s.chan d) ∧
              t = { s.freeRecord id with
                chans := t.chans
                tc := t.tc
                ints := { s.ints with channelOff := s.ints.channelOff ||| BitVec.ofNat 8 (2 ^ c.val) } }) ∧
          (s.inSlot c = true ∨ (∃ r, (s.chan c).lineRead = some r ∧ r.issued = true) →
            exec (.lineWriteAcknowledge id .ok) s =
              .next ((s.freeRecord id).modChan c fun ch => { ch with buffer := Buffer.cleared })))

/-! ## The invalidate queue -/

/-- R131, R125, R63, R64: the acknowledge of the issued head's KILL removes the head; a bus error sets KILL_FAIL and raises
COHERENCE; with no waiter the place stays free; a SYNC of a channel in the head's set whose condition now holds is
answered DONE, or FAULT when its write error seen field is set; channels outside the set are not touched. R131 step 3, R69,
R38, R160: in every bridge state and with every waiter list, the freed place is handed on first, then the SYNC and drain
conditions of the channels in the set are tested: a DRAINING channel whose condition now holds reaches DISABLED, its
translation cache entries dropped and CHANNEL_OFF raised for it. -/
def Obligations.KillAcknowledged : Prop :=
  (∀ (id : Nat) (e : InvEntry) (rest : List InvEntry) (ack : Ack) (s : State),
      s.resetHeld = false → s.bridge = .running → s.bus.recordOf id = some { id, requester := .kill } →
        s.inv.entries = e :: rest → e.issued = true → s.inv.waiters = [] →
          ∃ t, exec (.killAcknowledge id ack) s = .next t ∧
            t.inv = { entries := rest, waiters := [] } ∧
            t.sticky = (if ack = .busError then { s.sticky with killFail := true } else s.sticky) ∧
            t.ints.coherence = (s.ints.coherence || decide (ack = .busError)) ∧
            (∀ c ∈ e.chans, ∀ x, (s.chan c).txn = some x → x.request = .sync → (s.chan c).buffer.state = .empty →
              (s.chan c).buffer.reservation ≠ .held → (∀ f ∈ rest, c ∉ f.chans) →
                (t.chan c).txn = none ∧
                  (t.chan c).answers =
                    (s.chan c).answers ++ [if x.writeErrorSeen = true then .fault else .done []]) ∧
            (∀ c ∈ e.chans, ∀ x, (s.chan c).txn = some x → x.request = .sync →
              (∃ f ∈ rest, c ∈ f.chans) → (t.chan c).txn = some x ∧ (t.chan c).answers = (s.chan c).answers) ∧
            (∀ c, c ∉ e.chans → t.chan c = s.chan c) ∧
            (∀ c, (t.chan c).buffer = (s.chan c).buffer) ∧
            t = { s.freeRecord id with
              chans := t.chans, tc := t.tc, inv := t.inv, sticky := t.sticky, ints := t.ints }) ∧
  (∀ (id : Nat) (e : InvEntry) (rest : List InvEntry) (ack : Ack) (s : State),
      s.resetHeld = false → PlacesLaw s → SettledLaw s → s.bus.recordOf id = some { id, requester := .kill } →
        s.inv.entries = e :: rest → e.issued = true →
          ∃ u t, exec (.killAcknowledge id ack) s = .next t ∧
            PlaceFreed { s.freeRecord id with inv := { s.inv with entries := rest } } u ∧
            (∀ c ∈ e.chans, SyncTested u t c ∧ (DrainEnds u c → (t.chan c).state = .disabled) ∧
              (¬ DrainEnds u c → (t.chan c).state = (u.chan c).state) ∧
              t.chan c =
                { u.chan c with
                  state := (t.chan c).state, txn := (t.chan c).txn, answers := (t.chan c).answers }) ∧
            (∀ c, c ∉ e.chans → t.chan c = u.chan c) ∧
            ((∃ c ∈ e.chans, DrainEnds u c) →
              Dropped s.tc t.tc (fun x => x.chan ∈ e.chans ∧ DrainEnds u x.chan)) ∧
            ((∀ c ∈ e.chans, ¬ DrainEnds u c) → t.tc = s.tc) ∧
            (∀ c : Chan, t.ints.channelOff.getLsbD c.val = true ↔
              s.ints.channelOff.getLsbD c.val = true ∨ (c ∈ e.chans ∧ DrainEnds u c)) ∧
            t.ints =
              { s.ints with
                coherence := s.ints.coherence || decide (ack = .busError), channelOff := t.ints.channelOff } ∧
            t.sticky = (if ack = .busError then { s.sticky with killFail := true } else s.sticky) ∧
            t = { u with bridge := t.bridge, chans := t.chans, tc := t.tc, sticky := t.sticky, ints := t.ints })

/-! ## The bus master -/

/-- R139, R141: a grant taken with fewer than four cycles outstanding issues the KILL that stands, and else, if a WALK
request stands, the one placed earlier; its cycle record is filled and its requester is told. R140, R144: with neither
standing, it issues the line write next in the round robin, whose buffer goes to WRITING and whose write is observed; with
no line write standing, the line read next in its own. A grant taken while four cycles are outstanding, or while no request
stands, is returned unused. (R138 gives the identity of a cycle no form: that it is the serial number `nextId` counts is the
model's choice, log entry 6.) -/
def Obligations.BusGrant : Prop :=
  (∀ s : State, s.resetHeld = false → s.bus.cycles.length < 4 →
      (∀ e rest, s.inv.entries = e :: rest → e.issued = false →
          exec .busGrant s =
            .next { s with
              bus :=
                { s.bus with
                  cycles := s.bus.cycles ++ [{ id := s.bus.nextId, requester := .kill }]
                  nextId := s.bus.nextId + 1 }
              inv := { s.inv with entries := { e with issued := true } :: rest } }) ∧
        (∀ i older w, s.killStands = false → s.walk.requests = i :: older → s.walk.slots[i] = some w →
          exec .busGrant s =
            .next { s with
              bus :=
                { s.bus with
                  cycles := s.bus.cycles ++ [{ id := s.bus.nextId, requester := .walk i }]
                  nextId := s.bus.nextId + 1 }
              walk :=
                { s.walk with
                  slots := s.walk.slots.set i (some { w with issued := true })
                  requests := older.filter fun j => j ≠ i } })) ∧
  (∀ (c : Chan) (s : State), s.resetHeld = false → s.bus.cycles.length < 4 → s.killStands = false →
      s.walk.requests = [] →
        (NextInClass s.writeStands s.bus.writeLast c →
          exec .busGrant s =
            .next
              ((({ s with
                  bus :=
                    { s.bus with
                      cycles := s.bus.cycles ++ [{ id := s.bus.nextId, requester := .write c }]
                      writeLast := c
                      nextId := s.bus.nextId + 1 } } : State).modChan c fun ch =>
                { ch with buffer := { ch.buffer with state := .writing } }).observe
                { addr := (s.chan c).buffer.line, enables := (s.chan c).buffer.mask.toList })) ∧
          ((∀ d, s.writeStands d = false) → NextInClass s.readStands s.bus.readLast c →
            exec .busGrant s =
              .next
                (({ s with
                  bus :=
                    { s.bus with
                      cycles := s.bus.cycles ++ [{ id := s.bus.nextId, requester := .read c }]
                      readLast := c
                      nextId := s.bus.nextId + 1 } } : State).modChan c fun ch =>
                { ch with lineRead := ch.lineRead.map fun r => { r with issued := true } }))) ∧
  (∀ s : State, s.resetHeld = false →
      4 ≤ s.bus.cycles.length ∨
          (s.killStands = false ∧ s.walk.requests = [] ∧ (∀ c, s.writeStands c = false ∧ s.readStands c = false)) →
        exec .busGrant s = .next s)

/-- R146: a completion whose identity names no occupied record changes nothing, by whatever command it is sent. R146, R149,
R174: one that names an occupied record of its kind frees it, and in RESETTING the bridge returns to RUNNING at it exactly
when no WALK, READ or WRITE cycle is left outstanding. -/
def Obligations.CompletionsByIdentity : Prop :=
  (∀ (id : Nat) (s : State), s.resetHeld = false → (∀ k ∈ s.bus.cycles, k.id ≠ id) →
      (∀ r, exec (.ignoredCompletion (.walk id r)) s = .next s ∧ exec (.walkDataReturn id r) s = .next s) ∧
        (∀ r, exec (.ignoredCompletion (.lineRead id r)) s = .next s ∧ exec (.lineReadDataReturn id r) s = .next s) ∧
        (∀ a, exec (.ignoredCompletion (.lineWrite id a)) s = .next s ∧
          exec (.lineWriteAcknowledge id a) s = .next s) ∧
        (∀ a, exec (.ignoredCompletion (.kill id a)) s = .next s ∧ exec (.killAcknowledge id a) s = .next s)) ∧
  (∀ (k : Cycle) (i : Instr) (s : State), s.resetHeld = false → s.bus.recordOf k.id = some k →
      (match k.requester with
        | .walk _ => ∃ r, i = .walkDataReturn k.id r
        | .read _ => ∃ r, i = .lineReadDataReturn k.id r
        | .write _ => ∃ a, i = .lineWriteAcknowledge k.id a
        | .kill => ∃ a, i = .killAcknowledge k.id a) →
        ∃ t, exec i s = .next t ∧
          t.bus = { s.bus with cycles := s.bus.cycles.filter fun j => j.id ≠ k.id } ∧
          (s.bridge = .running → t.bridge = .running) ∧
          (s.bridge = .resetting → (t.bridge = .running ↔ ∀ j ∈ t.bus.cycles, j.requester = .kill)))

/-- R144, R32, R50, R97, R98: an observed write drops every cached translation whose map word it overlaps, stale-marks every
issued walk whose map word it overlaps, drops every read-ahead line it covers a byte of and marks every issued line
read of such a line stale-pending; nothing else changes. -/
def Obligations.ObservedWrite : Prop :=
  ∀ (addr : Word) (enables : List Bool) (s : State), s.resetHeld = false →
    ∃ t, exec (.observedWrite addr enables) s = .next t ∧
      Dropped s.tc t.tc
        (fun e => Writes addr enables (entryAddress (s.chan e.chan).desc.mapOrigin e.page) 4) ∧
      (∀ i : Fin 2,
        (s.walk.slots[i] = none → t.walk.slots[i] = none) ∧
        ∀ w, s.walk.slots[i] = some w →
          (w.issued = true ∧ Writes addr enables w.entryAddr 4 → t.walk.slots[i] = some { w with stale := true }) ∧
          (¬ (w.issued = true ∧ Writes addr enables w.entryAddr 4) → t.walk.slots[i] = some w)) ∧
      (∀ c,
        ((s.chan c).readAhead = none → (t.chan c).readAhead = none) ∧
        (∀ l, (s.chan c).readAhead = some l →
          (Writes addr enables l.line 16 → (t.chan c).readAhead = none) ∧
          (¬ Writes addr enables l.line 16 → (t.chan c).readAhead = some l)) ∧
        ((s.chan c).lineRead = none → (t.chan c).lineRead = none) ∧
        (∀ r, (s.chan c).lineRead = some r →
          (r.issued = true ∧ Writes addr enables r.line 16 →
            (t.chan c).lineRead = some { r with stalePending := true }) ∧
          (¬ (r.issued = true ∧ Writes addr enables r.line 16) → (t.chan c).lineRead = some r)) ∧
        t.chan c = { s.chan c with readAhead := (t.chan c).readAhead, lineRead := (t.chan c).lineRead }) ∧
      t = { s with chans := t.chans, tc := t.tc, walk := { s.walk with slots := t.walk.slots } }

/-! ## The shadow tag store -/

/-- R101: the set and the tag of a host line; lines that differ by a multiple of 4096 bytes share a set and differ in tag, and
set and tag together tell lines apart; a fill and a lookup of one line use the same set and tag; the 8 ways of a set hold 8
lines of it at once; a line write is placed by the host line address in its buffer; the rule's example. -/
def Obligations.SetAndTag : Prop :=
  (∀ line : Word, (setOf line).val = line.toNat / 16 % 256 ∧ (tagOf line).toNat = line.toNat / 4096) ∧
    (∀ (line : Word) (k : Nat), 0 < k → k < 2 ^ 20 →
      setOf (line + BitVec.ofNat 32 (4096 * k)) = setOf line ∧ tagOf (line + BitVec.ofNat 32 (4096 * k)) ≠ tagOf line) ∧
    (∀ l m : Word, l.toNat % 16 = 0 → m.toNat % 16 = 0 → (l = m ↔ setOf l = setOf m ∧ tagOf l = tagOf m)) ∧
    (∀ (sh : Shadow) (line : Word) (w : Way), sh.wayMask.getLsbD w.val = true → (sh.record line w).holds line = true) ∧
    (∀ (sh : Shadow) (lines : Vector Word 8) (set : Fin 256), sh.wayMask = 0xFF → (∀ w : Way, setOf lines[w] = set) →
      ∀ w : Way, ((List.finRange 8).foldl (fun sh v => sh.record lines[v] v) sh).holds lines[w] = true) ∧
    (∀ (id : Nat) (c : Chan) (ack : Ack) (s t : State), s.resetHeld = false →
      s.bus.recordOf id = some { id, requester := .write c } → exec (.lineWriteAcknowledge id ack) s = .next t →
        ∀ set : Fin 256, set ≠ setOf (s.chan c).buffer.line → t.shadow.sets[set] = s.shadow.sets[set]) ∧
    setOf 0x00518C50 = 0xC5 ∧ tagOf 0x00518C50 = 0x00518 ∧ setOf 0x00519C50 = 0xC5 ∧ tagOf 0x00519C50 = 0x00519

/-- R103 to R105: a fill is ignored under OFF; under TRACK and BROADCAST one into a disabled way sets FILL_WAY and raises
COHERENCE, and one into an enabled way is recorded over its entry alone, with a fresh mark when the store is CLEARING
and the set is at or above the pointer. -/
def Obligations.Fill : Prop :=
  ∀ (line : Word) (w : Way) (s : State), s.resetHeld = false →
    (s.shadow.mode = .off → exec (.fill line w) s = .next s) ∧
      (s.shadow.mode ≠ .off → s.shadow.wayMask.getLsbD w.val = false →
        exec (.fill line w) s =
          .next { s with
            sticky := { s.sticky with fillWay := true }, ints := { s.ints with coherence := true } }) ∧
      (s.shadow.mode ≠ .off → s.shadow.wayMask.getLsbD w.val = true →
        ∃ t, exec (.fill line w) s = .next t ∧ t = { s with shadow := { s.shadow with sets := t.shadow.sets } } ∧
          (∀ (set : Fin 256) (way : Way),
            t.shadow.sets[set][way] =
              if set = setOf line ∧ way = w then
                some
                  { tag := tagOf line
                    fresh := decide (s.shadow.state = .clearing ∧ s.shadow.pointer ≤ set.val) }
              else s.shadow.sets[set][way]))

/-- R117, R118: a sweep step while the store is CLEARING clears the unmarked entries of the set at the pointer, unmarks the
marked ones and advances the pointer; the step at set 255 returns the store to IDLE and raises SWEEP_DONE. (That the
command changes nothing in IDLE, where R117 takes no step, is the model's reading, log entry 20.) -/
def Obligations.SweepStep : Prop :=
  ∀ s : State, s.resetHeld = false →
    (s.shadow.state = .idle → exec .sweepStep s = .next s) ∧
      (s.shadow.state = .clearing → SweepPointerLaw s →
        ∃ t, exec .sweepStep s = .next t ∧
          (∀ (set : Fin 256) (w : Way),
            t.shadow.sets[set][w] =
              if set.val = s.shadow.pointer then
                (match s.shadow.sets[set][w] with
                  | some e => if e.fresh = true then some { e with fresh := false } else none
                  | none => none)
              else s.shadow.sets[set][w]) ∧
          t.shadow.pointer = s.shadow.pointer + 1 ∧
          t.shadow.state = (if s.shadow.pointer = 255 then .idle else .clearing) ∧
          t.ints = (if s.shadow.pointer = 255 then { s.ints with sweepDone := true } else s.ints) ∧
          t = { s with
            ints := t.ints
            shadow :=
              { s.shadow with sets := t.shadow.sets, state := t.shadow.state, pointer := t.shadow.pointer } })

/-- R116 to R118: a whole sweep with nothing between its steps: TAGS_CLEAR in IDLE and then 256 sweep steps leave the store
IDLE with the pointer at 256 and SWEEP_DONE raised, and of the entries exactly those that carried a fresh mark, without
it (in a state that keeps the law of R105 there are none, so the store is empty). -/
def Obligations.WholeSweep : Prop :=
  ∀ (channel : BitVec 4) (page : BitVec 14) (s s' : State), CommandReady s → s.shadow.state = .idle →
    exec (.tagsClear channel page) s = .next s' →
      ∃ t, execTimes .sweepStep 256 s' = .next t ∧
        t.shadow.state = .idle ∧ t.shadow.pointer = 256 ∧ t.ints.sweepDone = true ∧
        (∀ (set : Fin 256) (w : Way),
          t.shadow.sets[set][w] =
            (match s.shadow.sets[set][w] with
              | some e => if e.fresh = true then some { e with fresh := false } else none
              | none => none)) ∧
        (FreshMarkLaw s → ∀ (set : Fin 256) (w : Way), t.shadow.sets[set][w] = none)

/-- R106, R107, R166: MODE_WRITE puts the mode its field names in force and changes nothing else, or, for the value 3, sets
BAD_WRITE and changes nothing else; WAY_MASK_WRITE puts the mask in force and changes nothing else. (That each of the
two commands writes the other field back as it is is the model's choice, log entry 10.) R84, R175: a divisor write stores
the divisor, whatever its value, and sets the count to 0. -/
def Obligations.ModeMaskAndDivisorWrites : Prop :=
  (∀ (m : BitVec 2) (mask : BitVec 8) (s : State), s.resetHeld = false →
      (∀ mode : ShadowMode, m.toNat = mode.code →
          exec (.modeWrite m) s = .next { s with shadow := { s.shadow with mode := mode } }) ∧
        (m.toNat = 3 → exec (.modeWrite m) s = .next { s with sticky := { s.sticky with badWrite := true } }) ∧
        exec (.wayMaskWrite mask) s = .next { s with shadow := { s.shadow with wayMask := mask } }) ∧
  (∀ (value : Word) (s : State), s.resetHeld = false →
      exec (.divisorWrite value) s =
        .next { s with time := { divisor := BitVec.ofNat 8 (value.toNat % 256), count := 0 } })

/-! ## The timebase -/

/-- R85: a tick lowers by one the timer of every FILLING buffer whose channel's idle timeout is not 0, and a buffer whose
timer reaches 0 goes to PENDING; no other buffer changes. R83, R87, R123, R124: a buffer that alone expires on the tick makes its reservation
decision then; on any tick the waiters that stand keep their places and their order, the buffers that must wait join behind
them, each once, and one waits only when all 8 places are in use. R83: the expiry of one channel's idle timer, which stands at 1, is
a flush cause for its buffer. (The order in which several buffers that expire on one tick ask for places is a free value,
log entry 2; that IDLE_TIMER_EXPIRY stands for one channel's part of a tick alone is the model's choice, log entry 8; that a
TICK command sets the count to 0 is the model's choice, log entry 13.) -/
def Obligations.TickAndIdleTimerExpiry : Prop :=
  (∀ s : State, s.resetHeld = false → s.time.divisor ≠ 0 →
      let expires := fun c : Chan =>
        (s.chan c).buffer.state = .filling ∧ (s.chan c).desc.idleTimeout ≠ 0 ∧ (s.chan c).buffer.timer ≤ 1
      ∃ t, exec .tick s = .next t ∧ t.time = { s.time with count := 0 } ∧
        (∀ c,
          let b := (s.chan c).buffer
          let b' := (t.chan c).buffer
          t.chan c = { s.chan c with buffer := b' } ∧
          (b.state = .filling → (s.chan c).desc.idleTimeout ≠ 0 → 2 ≤ b.timer → b' = { b with timer := b.timer - 1 }) ∧
          (b.state = .filling → (s.chan c).desc.idleTimeout ≠ 0 → b.timer ≤ 1 →
            b' = { b with state := .pending, timer := 0, reservation := b'.reservation } ∧
            (b.coh = false ∨ s.shadow.mode = .off → b'.reservation = .none) ∧
            (b.coh = true ∧ s.shadow.mode ≠ .off → b'.reservation = .held ∨ b'.reservation = .waiting)) ∧
          (b.state ≠ .filling ∨ (s.chan c).desc.idleTimeout = 0 → b' = b)) ∧
        (∀ c, expires c → (∀ d, expires d → d = c) → Flushed s t c) ∧
        (∃ joining : List Chan,
          t.inv = { s.inv with waiters := s.inv.waiters ++ joining } ∧ joining.Nodup ∧
            (∀ c, c ∈ joining ↔ expires c ∧ (t.chan c).buffer.reservation = .waiting) ∧
            (WaiterLaw s → t.placesInUse ≤ 8 ∧ (joining ≠ [] → t.placesInUse = 8))) ∧
        t = { s with chans := t.chans, inv := t.inv, time := t.time, freeCount := t.freeCount }) ∧
  (∀ (c : Chan) (s : State), s.resetHeld = false → s.time.divisor ≠ 0 → (s.chan c).desc.idleTimeout ≠ 0 →
      (s.chan c).buffer.state = .filling → (s.chan c).buffer.timer = 1 →
        ∃ t, exec (.idleTimerExpiry c) s = .next t ∧ Flushed s t c ∧ (t.chan c).buffer.state = .pending ∧
          t.chan c = { s.chan c with buffer := (t.chan c).buffer } ∧
          (∀ d, d ≠ c → t.chan d = s.chan d) ∧ t = { s with chans := t.chans, inv := t.inv })

/-- R85: a timer loaded with `n` at a merge expires at the `n`th tick after it, when no further merge reloads it: after
`k < n` ticks the buffer is FILLING with timer `n - k`, and after `n` ticks it is PENDING. -/
def Obligations.TimerExpiresAtItsTick : Prop :=
  ∀ (c : Chan) (k : Nat) (s : State), s.resetHeld = false → s.time.divisor ≠ 0 →
    (s.chan c).buffer.state = .filling → (s.chan c).desc.idleTimeout ≠ 0 → 1 ≤ (s.chan c).buffer.timer →
      k ≤ (s.chan c).buffer.timer →
        ∃ t, execTimes .tick k s = .next t ∧
          (t.chan c).buffer.timer = (s.chan c).buffer.timer - k ∧
          (t.chan c).buffer.state = (if k < (s.chan c).buffer.timer then .filling else .pending)

/-! ## Soft reset -/

/-- R173 (with R79, R40, R57, R92, R99, R121, R134, R149, R156, R163, R172, R84): what the soft reset trigger leaves of every
block in RUNNING; R174: the bridge is RUNNING again at once when no WALK, READ or WRITE cycle is outstanding. In
RESETTING the trigger changes nothing. -/
def Obligations.SoftReset : Prop :=
  ∀ s : State, s.resetHeld = false →
    (s.bridge = .resetting → exec .softReset s = .next s) ∧
      (s.bridge = .running →
        ∃ t, exec .softReset s = .next t ∧
          (∀ c, t.chan c =
            { s.chan c with
              state := .disabled
              txn := none
              answers := if (s.chan c).txn = none then (s.chan c).answers else (s.chan c).answers ++ [.stopped]
              buffer := if (s.chan c).buffer.state = .writing then (s.chan c).buffer else Buffer.cleared
              readAhead := none
              lineRead :=
                match (s.chan c).lineRead with
                | some r => if r.issued = true then some { r with discard := true } else none
                | none => none }) ∧
          t.tc =
            { s.tc with
              entries := Vector.replicate 16 none
              recency := [0, 1, 2, 3, 4, 5, 6, 7, 8, 9, 10, 11, 12, 13, 14, 15]
              lastServed := .commandUnit } ∧
          (∀ i : Fin 2,
            t.walk.slots[i] =
              match s.walk.slots[i] with
              | some w => if w.issued = true then some { w with discard := true } else none
              | none => none) ∧
          t.walk.requests = [] ∧ t.walk.queue = [] ∧
          t.inv = { s.inv with waiters := [] } ∧
          t.bus = { s.bus with writeLast := 7, readLast := 7 } ∧
          t.log = { s.log with records := [] } ∧
          (s.cmd.busy = false → t.cmd = s.cmd ∧ t.ints = { s.ints with channelOff := 0 }) ∧
          (∀ n, s.cmd.busy = true → s.cmd.command = some n →
            t.cmd = { s.cmd with busy := false, outcome := .resetting } ∧
              t.ints = { s.ints with channelOff := 0, cmdDone := true }) ∧
          (t.bridge = .running ↔ ∀ k ∈ s.bus.cycles, k.requester = .kill) ∧
          t = { s with
            bridge := t.bridge, chans := t.chans, tc := t.tc, walk := t.walk, inv := t.inv, bus := t.bus
            log := t.log, ints := t.ints, cmd := t.cmd })

/-! ## The register window -/

/-- R155: FAULT_POP removes the head record and changes nothing else, whatever the value written; FAULT_PENDING is set
afterwards exactly when a record is left. R157, R160, R161: a write to GLOBAL_STATUS, INT_CAUSE or CHANNEL_OFF_SET clears
each sticky flag, sticky cause or channel written with 1 and leaves the others; FAULT_PENDING and CHANNEL_OFF ignore
INT_CAUSE. -/
def Obligations.FaultPopAndWriteOneToClear : Prop :=
  (∀ (value : Word) (s : State), s.resetHeld = false →
      ∃ t, exec (.faultPop value) s = .next t ∧
        (∀ r rest, s.log.records = r :: rest → t.log.records = rest) ∧ (s.log.records = [] → t.log.records = []) ∧
        (t.faultPending = true ↔ 2 ≤ s.log.records.length) ∧
        t = { s with log := { s.log with records := t.log.records } }) ∧
  (∀ (value : Word) (s : State), s.resetHeld = false →
      (∃ t, exec (.globalStatusClear value) s = .next t ∧ t.sticky.word = s.sticky.word &&& ~~~value ∧
          t = { s with sticky := t.sticky }) ∧
        (∃ t, exec (.intCauseClear value) s = .next t ∧
          t.causeBits = s.causeBits &&& ~~~(value.setWidth 6 &&& 0b101110#6) ∧
          t.ints.channelOff = s.ints.channelOff ∧ t.ints.mask = s.ints.mask ∧ t = { s with ints := t.ints }) ∧
        (∃ t, exec (.channelOffClear value) s = .next t ∧
          (∀ c : Chan, t.ints.channelOff.getLsbD c.val = (s.ints.channelOff.getLsbD c.val && !value.getLsbD c.val)) ∧
          (t.channelOffCause = true ↔ ∃ c : Chan, t.ints.channelOff.getLsbD c.val = true) ∧
          t = { s with ints := { s.ints with channelOff := t.ints.channelOff } }))

/-- R162: INT_MASK_WRITE sets the six enables and changes nothing else. `INT#` is asserted exactly while a cause is set with
its enable on and `RESET#` is not held. -/
def Obligations.InterruptLine : Prop :=
  (∀ (value : Word) (s : State), s.resetHeld = false →
    exec (.intMaskWrite value) s = .next { s with ints := { s.ints with mask := BitVec.ofNat 6 value.toNat } }) ∧
    ∀ s : State,
      s.intAsserted = true ↔
        s.resetHeld = false ∧
          ((s.log.records ≠ [] ∧ s.ints.mask.getLsbD 0 = true) ∨
            (s.ints.logOverflow = true ∧ s.ints.mask.getLsbD 1 = true) ∨
            (s.ints.coherence = true ∧ s.ints.mask.getLsbD 2 = true) ∨
            (s.ints.cmdDone = true ∧ s.ints.mask.getLsbD 3 = true) ∨
            (s.ints.channelOff ≠ 0 ∧ s.ints.mask.getLsbD 4 = true) ∨
            (s.ints.sweepDone = true ∧ s.ints.mask.getLsbD 5 = true))

/-- R3 to R6: a descriptor write in DISABLED stores the fields of its register within their widths, bits 5..0 of the origin
as zero, and changes nothing else; in any other state it sets DESC_IGNORED and changes nothing else. -/
def Obligations.DescriptorWrite : Prop :=
  ∀ (c : Chan) (value : Word) (s : State), s.resetHeld = false →
    ((s.chan c).state = .disabled →
        exec (.descriptorWrite c .mapOrigin value) s =
          .next (s.modChan c fun ch =>
            { ch with desc := { ch.desc with mapOrigin := BitVec.ofNat 32 (value.toNat / 64 * 64) } }) ∧
        exec (.descriptorWrite c .mapLength value) s =
          .next (s.modChan c fun ch => { ch with desc := { ch.desc with mapLength := BitVec.ofNat 14 value.toNat } }) ∧
        exec (.descriptorWrite c .channelSettings value) s =
          .next (s.modChan c fun ch =>
            { ch with
              desc :=
                { ch.desc with
                  quota := BitVec.ofNat 5 value.toNat
                  idleTimeout := BitVec.ofNat 8 (value.toNat / 256)
                  readAhead := value.getLsbD 16 } })) ∧
      ((s.chan c).state ≠ .disabled →
        ∀ reg, exec (.descriptorWrite c reg value) s =
          .next { s with sticky := { s.sticky with descIgnored := true } })

/-- R164, R165, R167, R168, R179: a 4-byte write at a register's offset from the window base is the command of the table that
names that register's write. (The table gives REGISTER_WRITE the registers that have no row of their own: that it covers the
others too, and does there what their rows do, is the model's reading, log entry 21.) -/
def Obligations.RegisterWriteIsItsCommand : Prop :=
  ∀ (value : Word) (s : State), WindowBaseLaw s →
    let write := fun offset : Nat => exec (.registerWrite (s.windowBase + BitVec.ofNat 32 offset) 0xF value) s
    (value.getLsbD 0 = true → write 0x004 = exec .softReset s) ∧
      write 0x008 = exec (.divisorWrite value) s ∧ write 0x00C = exec (.globalStatusClear value) s ∧
      write 0x010 = exec (.intCauseClear value) s ∧ write 0x014 = exec (.intMaskWrite value) s ∧
      write 0x018 = exec (.channelOffClear value) s ∧ write 0x05C = exec (.faultPop value) s ∧
      (∀ n : CommandName, value.toNat % 16 = commandCode (some n) →
        write 0x020 =
          exec (n.instr (BitVec.ofNat 4 (value.toNat / 16)) (BitVec.ofNat 14 (value.toNat / 256))) s) ∧
      (∀ mode : ShadowMode, s.resetHeld = false → value.toNat % 4 = mode.code →
        write 0x030 =
          .next { s with
            shadow := { s.shadow with mode := mode, wayMask := BitVec.ofNat 8 (value.toNat / 256) } }) ∧
      (∀ c : Chan, write (0x100 + 0x10 * c.val) = exec (.descriptorWrite c .mapOrigin value) s ∧
        write (0x104 + 0x10 * c.val) = exec (.descriptorWrite c .mapLength value) s ∧
        write (0x108 + 0x10 * c.val) = exec (.descriptorWrite c .channelSettings value) s)

/-- R165, R173: a 4-byte write to a read-only register or to an offset with no register, and one to RESET_CONTROL with bit 0
clear, change nothing. (That a host write outside the window changes nothing here, its address phase being an OBSERVED_WRITE
of its own, is the model's reading, log entry 22; how a write's byte lanes are given is the model's, log entry 14.) R166: the
three writes that set BAD_WRITE and change nothing else: one of fewer than four bytes in the window, one to SHADOW_CONTROL
whose mode field holds 3, and one to COMMAND, while the unit is IDLE, whose code names no command. R166, R169: such a write
to COMMAND while the unit is BUSY sets CMD_OVERRUN and changes nothing else. -/
def Obligations.RegisterWriteChangesNothingOrIsBad : Prop :=
  (∀ (value : Word) (s : State), s.resetHeld = false → WindowBaseLaw s →
      (∀ addr lanes, addr.toNat < s.windowBase.toNat ∨ s.windowBase.toNat + 0x1000 ≤ addr.toNat →
          exec (.registerWrite addr lanes value) s = .next s) ∧
        (∀ offset ∈ [0x000, 0x024, 0x028, 0x034, 0x040, 0x044, 0x050, 0x054, 0x058],
          exec (.registerWrite (s.windowBase + BitVec.ofNat 32 offset) 0xF value) s = .next s) ∧
        (∀ c : Chan,
          exec (.registerWrite (s.windowBase + BitVec.ofNat 32 (0x10C + 0x10 * c.val)) 0xF value) s = .next s) ∧
        (∀ offset, offset < 0x1000 → offset % 4 = 0 → offset ∉ [0x000, 0x004, 0x008, 0x00C, 0x010, 0x014, 0x018, 0x020,
            0x024, 0x028, 0x030, 0x034, 0x040, 0x044, 0x050, 0x054, 0x058, 0x05C] → offset < 0x100 ∨ 0x180 ≤ offset →
          exec (.registerWrite (s.windowBase + BitVec.ofNat 32 offset) 0xF value) s = .next s) ∧
        (value.getLsbD 0 = false →
          exec (.registerWrite (s.windowBase + 0x004) 0xF value) s = .next s)) ∧
  (∀ (value : Word) (s : State), s.resetHeld = false → WindowBaseLaw s →
      let bad : State := { s with sticky := { s.sticky with badWrite := true } }
      (∀ addr lanes, s.windowBase.toNat ≤ addr.toNat → addr.toNat < s.windowBase.toNat + 0x1000 → lanes ≠ 0xF →
          exec (.registerWrite addr lanes value) s = .next bad) ∧
        (value.toNat % 4 = 3 → exec (.registerWrite (s.windowBase + 0x030) 0xF value) s = .next bad) ∧
        (value.toNat % 16 = 0 ∨ 10 ≤ value.toNat % 16 → s.cmd.busy = false →
          exec (.registerWrite (s.windowBase + 0x020) 0xF value) s = .next bad) ∧
        (value.toNat % 16 = 0 ∨ 10 ≤ value.toNat % 16 → s.cmd.busy = true →
          exec (.registerWrite (s.windowBase + 0x020) 0xF value) s =
            .next { s with sticky := { s.sticky with cmdOverrun := true } }))

/-- R178: IDENT reads 0x1D42_0801 from the release of `RESET#` onwards, in both bridge states, and no write changes it; its
codes stand at bits 31..24, 23..8 and 7..0. -/
def Obligations.Ident : Prop :=
  ∀ s : State, WindowBaseLaw s → s.resetHeld = false →
    ∃ ident : Word, s.windowRead s.windowBase 0xF = some ident ∧ ident = 0x1D420801 ∧
      ident.toNat / 2 ^ 24 = 0x1D ∧ ident.toNat / 2 ^ 8 % 2 ^ 16 = 0x4208 ∧ ident.toNat % 2 ^ 8 = 0x01 ∧
      ∀ value, exec (.registerWrite s.windowBase 0xF value) s = .next s ∧
        ∀ addr lanes t, exec (.registerWrite addr lanes value) s = .next t → t.windowRead s.windowBase 0xF = some ident

/-- R176, R138, R122: BUS_STATUS shows for each kind, KILL, WRITE, READ and WALK, how many of its cycles are outstanding, a
total equal to the sum of the four counts, and its non-KILL field set exactly while a WALK, READ or WRITE is outstanding;
INVALIDATE_STATUS shows the entries, the reservations, the waiters and whether the head is issued, and entries and
reservations never exceed 8 together; in both the bits outside the fields are 0. R165,
R179 (10.8.2 to 10.8.5), with R3 to R5, R7, R39, R102, R154, R157, R158, R160, R171, R173, R175, R177: what a 4-byte read of
every other readable register returns, field by field, the bits outside the fields 0; the write-only registers read 0. (That a
read is a view of the state and no command is the model's reading, log entry 14.) -/
def Obligations.StatusViews : Prop :=
  (∀ s : State,
      (OutstandingLaw s →
          let word := s.readReg .busStatus
          word.toNat % 8 = s.bus.cycles.length ∧
            word.toNat % 8 =
              word.toNat / 16 % 8 + word.toNat / 256 % 8 + word.toNat / 4096 % 8 + word.toNat / 65536 % 8 ∧
            (word.getLsbD 24 = true ↔
              0 < word.toNat / 16 % 8 + word.toNat / 256 % 8 + word.toNat / 4096 % 8) ∧
            (word.getLsbD 24 = true ↔ ∃ k ∈ s.bus.cycles, k.requester ≠ .kill) ∧
            word.toNat / 16 % 8 = (s.bus.cycles.filter fun k => ∃ i, k.requester = .walk i).length ∧
            word.toNat / 256 % 8 = (s.bus.cycles.filter fun k => ∃ c, k.requester = .read c).length ∧
            word.toNat / 4096 % 8 = (s.bus.cycles.filter fun k => ∃ c, k.requester = .write c).length ∧
            word.toNat / 65536 % 8 = (s.bus.cycles.filter fun k => k.requester = .kill).length ∧
            word.toNat / 8 % 2 = 0 ∧ word.toNat / 128 % 2 = 0 ∧ word.toNat / 2048 % 2 = 0 ∧
            word.toNat / 32768 % 2 = 0 ∧ word.toNat / 2 ^ 19 % 2 ^ 5 = 0 ∧ word.toNat / 2 ^ 25 = 0) ∧
        (PlacesLaw s → s.inv.waiters.length ≤ 8 →
          let word := s.readReg .invalidateStatus
          word.toNat % 16 = s.inv.entries.length ∧ word.toNat / 16 % 16 = s.reservations ∧
            word.toNat / 256 % 16 = s.inv.waiters.length ∧ word.toNat % 16 + word.toNat / 16 % 16 ≤ 8 ∧
            word.toNat / 2 ^ 12 % 2 ^ 4 = 0 ∧ word.toNat / 2 ^ 17 = 0 ∧
            (word.getLsbD 16 = true ↔ ∃ e rest, s.inv.entries = e :: rest ∧ e.issued = true))) ∧
  (∀ s : State, s.resetHeld = false → WindowBaseLaw s →
      let reads := fun offset : Nat => (s.windowRead (s.windowBase + BitVec.ofNat 32 offset) 0xF).map BitVec.toNat
      let shadowControl := s.shadow.wayMask.toNat * 2 ^ 8 + [ShadowMode.off, .track, .broadcast].idxOf s.shadow.mode
      reads 0x004 = some (if s.bridge = .resetting then 1 else 0) ∧
        reads 0x008 = some s.time.divisor.toNat ∧
        reads 0x00C =
          some (s.sticky.fillWay.toNat + s.sticky.killFail.toNat * 2 + s.sticky.descIgnored.toNat * 4
            + s.sticky.cmdOverrun.toNat * 8 + s.sticky.badWrite.toNat * 16) ∧
        reads 0x010 =
          some ((if s.log.records = [] then 0 else 1) + s.ints.logOverflow.toNat * 2 + s.ints.coherence.toNat * 4
            + s.ints.cmdDone.toNat * 8 + (if s.ints.channelOff = 0 then 0 else 16) + s.ints.sweepDone.toNat * 32) ∧
        reads 0x014 = some s.ints.mask.toNat ∧ reads 0x018 = some s.ints.channelOff.toNat ∧
        reads 0x020 = some 0 ∧ reads 0x05C = some 0 ∧
        reads 0x024 =
          some (s.cmd.page.toNat * 2 ^ 16 + s.cmd.channel.toNat * 2 ^ 12
            + [CmdOutcome.ok, .wrongState, .badDesc, .badOperand, .resetting].idxOf s.cmd.outcome * 2 ^ 8
            + [none, some CommandName.chEnable, some .chDisable, some .chResume, some .chAbort, some .xlatFlushPage,
                some .xlatFlushChannel, some .xlatFlushAll, some .xlatProbe, some .tagsClear].idxOf s.cmd.command * 2 ^ 4
            + s.cmd.busy.toNat) ∧
        reads 0x028 =
          some (s.tc.probe.xlat.frame.toNat * 2 ^ 11 + s.tc.probe.entry.val * 2 ^ 4 + s.tc.probe.xlat.coh.toNat * 8
            + s.tc.probe.xlat.wr.toNat * 4 + s.tc.probe.xlat.rd.toNat * 2 + s.tc.probe.hit.toNat) ∧
        reads 0x030 = some shadowControl ∧
        (SweepPointerLaw s →
          reads 0x034 =
            some (s.shadow.pointer * 2 ^ 16 + (if s.shadow.state = .clearing then 4 else 0) + shadowControl)) ∧
        reads 0x040 = some (s.readReg .invalidateStatus).toNat ∧ reads 0x044 = some (s.readReg .busStatus).toNat ∧
        (s.log.records = [] → reads 0x050 = some 0 ∧ reads 0x054 = some 0) ∧
        (∀ r rest, s.log.records = r :: rest →
          reads 0x050 =
              some (2 ^ 31
                + ([Cause.notValid, .noRead, .noWrite, .outOfMap, .misaligned, .mapBusErr, .readBusErr,
                    .writeBusErr].idxOf r.cause + 1) * 2 ^ 12
                + (if r.access = .write then 2 ^ 11 else 0) + r.chan.val * 2 ^ 8 + r.seq.toNat) ∧
            reads 0x054 = some r.addr.toNat) ∧
        (FaultLogLaw s → reads 0x058 = some (s.log.nextSeq.toNat * 2 ^ 8 + s.log.records.length)) ∧
        ∀ c : Chan,
          reads (0x100 + 0x10 * c.val) = some (s.chan c).desc.mapOrigin.toNat ∧
            reads (0x104 + 0x10 * c.val) = some (s.chan c).desc.mapLength.toNat ∧
            reads (0x108 + 0x10 * c.val) =
              some ((s.chan c).desc.readAhead.toNat * 2 ^ 16 + (s.chan c).desc.idleTimeout.toNat * 2 ^ 8
                + (s.chan c).desc.quota.toNat) ∧
            reads (0x10C + 0x10 * c.val) =
              some ([Reservation.none, .held, .waiting].idxOf (s.chan c).buffer.reservation * 2 ^ 14
                + [BufState.empty, .filling, .pending, .writing].idxOf (s.chan c).buffer.state * 2 ^ 12
                + (match (s.chan c).txn with
                  | none => 0
                  | some x =>
                    [Phase.waitLookup, .waitWalk, .waitBuffer, .waitRead, .waitSync].idxOf x.phase * 2 ^ 8
                      + (match x.request with
                        | .read _ _ => 0
                        | .write _ _ => 1
                        | .sync => 2) * 2 ^ 5
                      + 2 ^ 4)
                + [ChState.disabled, .active, .faulted, .draining, .aborting].idxOf (s.chan c).state))

/-- R1, R12: the host address of a translated access, its line and the byte position in the line. -/
def Obligations.HostAddress : Prop :=
  ∀ (frame : Frame) (addr : ChanAddr),
    (hostAddress frame addr).toNat = frame.toNat * 2048 + addr.toNat % 2048 ∧
      (lineOf (hostAddress frame addr)).toNat = (hostAddress frame addr).toNat / 16 * 16 ∧
      (posOf addr).toNat = addr.toNat % 16 ∧ (hostAddress frame addr).toNat % 16 = addr.toNat % 16 ∧
      (lineStartOf addr).toNat = addr.toNat / 16 * 16 ∧ (pageOf addr).toNat = addr.toNat / 2048

/-! ## The laws of the ID4208 -/

/-- R122: entries and reservations never number more than 8, and R127, R129: no two unissued entries name the same line, and
only the head entry is ever issued; R150: the log never holds more than 8 records; R122 to R125: the waiters are the PENDING
buffers that wait, each once, and there is one only while all 8 places are in use. Each is kept by every step. -/
def Obligations.QueueLawsKept : Prop :=
  KeptByStep PlacesLaw ∧ KeptByStep UnissuedLinesLaw ∧ KeptByStep HeadIssuedLaw ∧ KeptByStep FaultLogLaw ∧
    KeptByStep WaiterLaw

/-- R105: a shadow entry carries a fresh mark only while the store is CLEARING and only at or above the sweep pointer; R102:
the pointer is 256 in IDLE and below 256 in CLEARING. Together they are kept by every step. -/
def Obligations.SweepLawsKept : Prop := KeptByStep fun s => FreshMarkLaw s ∧ SweepPointerLaw s

/-- R29, R20: the cache never holds two valid entries for one (channel, page) pair, and the recency list holds each entry
number once, valid entries first, free ones in ascending order. Each is kept by every step. -/
def Obligations.CacheLawsKept : Prop := KeptByStep OneTranslationLaw ∧ KeptByStep RecencyLaw

/-- R80, R97, R4, R3: a buffer is FILLING only in ACTIVE; a read-ahead line is valid only in ACTIVE; a channel outside
DISABLED has a legal descriptor; a stored map origin is a multiple of 64. Each is kept by every step. -/
def Obligations.ChannelLawsKept : Prop :=
  KeptByStep FillingLaw ∧ KeptByStep ReadAheadLaw ∧ KeptByStep LegalDescriptorLaw ∧ KeptByStep OriginLaw

/-- R174, R79, R172: in RESETTING every channel is DISABLED and the command unit is IDLE; R138: at most four cycles are
outstanding, with distinct identities; R84: the count stands below the divisor; R164: the window base is one of four.
Each is kept by every step. -/
def Obligations.BridgeLawsKept : Prop :=
  KeptByStep ResettingLaw ∧ KeptByStep OutstandingLaw ∧ KeptByStep TimebaseLaw ∧ KeptByStep WindowBaseLaw

/-- R21: a channel never holds more valid translation cache entries than its quota, and a DISABLED channel holds none. R42,
R44, R93: each walk and each line read is that of its channel's waiting transaction, or discard-marked. R137, R138, R146:
each requester has at most one outstanding cycle, and has one exactly while it holds it as issued. Together with the laws
they rest on they are kept by every step. -/
def Obligations.TrafficLawsKept : Prop := KeptByStep TrafficLaws

/-- R63, R69, R71: every happening that can make a SYNC, drain or abort condition true tests it: no step leaves a pending SYNC,
a DRAINING channel or an ABORTING channel with its condition holding. -/
def Obligations.NoConditionLeftUntested : Prop := KeptByStep SettledLaw

/-- The laws hold at `State.reset`. -/
def Obligations.ResetMeetsLaws : Prop :=
  PlacesLaw State.reset ∧ UnissuedLinesLaw State.reset ∧ HeadIssuedLaw State.reset ∧ FaultLogLaw State.reset ∧
    FreshMarkLaw State.reset ∧ SweepPointerLaw State.reset ∧ OneTranslationLaw State.reset ∧ RecencyLaw State.reset ∧
    FillingLaw State.reset ∧ ReadAheadLaw State.reset ∧ LegalDescriptorLaw State.reset ∧ OriginLaw State.reset ∧
    ResettingLaw State.reset ∧ OutstandingLaw State.reset ∧ TimebaseLaw State.reset ∧ WindowBaseLaw State.reset ∧
    SettledLaw State.reset ∧ WaiterLaw State.reset ∧ TrafficLaws State.reset
end

