-- ==== Sys2Proof/Laws/State.lean ====
section
/-!
SUPPORT. One lemma per field per named update of the state, true by rfl, so that no proof unfolds an update.
-/

namespace Sys2Proof.Machine

section
variable (s : State) (c : Chan) (x : Channel)
@[simp] theorem State.setChan_resetHeld : (s.setChan c x).resetHeld = s.resetHeld := rfl
@[simp] theorem State.setChan_windowBase : (s.setChan c x).windowBase = s.windowBase := rfl
@[simp] theorem State.setChan_bridge : (s.setChan c x).bridge = s.bridge := rfl
@[simp] theorem State.setChan_tc : (s.setChan c x).tc = s.tc := rfl
@[simp] theorem State.setChan_walk : (s.setChan c x).walk = s.walk := rfl
@[simp] theorem State.setChan_shadow : (s.setChan c x).shadow = s.shadow := rfl
@[simp] theorem State.setChan_inv : (s.setChan c x).inv = s.inv := rfl
@[simp] theorem State.setChan_bus : (s.setChan c x).bus = s.bus := rfl
@[simp] theorem State.setChan_log : (s.setChan c x).log = s.log := rfl
@[simp] theorem State.setChan_sticky : (s.setChan c x).sticky = s.sticky := rfl
@[simp] theorem State.setChan_ints : (s.setChan c x).ints = s.ints := rfl
@[simp] theorem State.setChan_cmd : (s.setChan c x).cmd = s.cmd := rfl
@[simp] theorem State.setChan_time : (s.setChan c x).time = s.time := rfl
@[simp] theorem State.setChan_freeCount : (s.setChan c x).freeCount = s.freeCount := rfl
@[simp] theorem State.setChan_pending : (s.setChan c x).pending = s.pending := rfl
end

section
variable (s : State) (c : Chan) (f : Channel → Channel)
@[simp] theorem State.modChan_resetHeld : (s.modChan c f).resetHeld = s.resetHeld := rfl
@[simp] theorem State.modChan_windowBase : (s.modChan c f).windowBase = s.windowBase := rfl
@[simp] theorem State.modChan_bridge : (s.modChan c f).bridge = s.bridge := rfl
@[simp] theorem State.modChan_tc : (s.modChan c f).tc = s.tc := rfl
@[simp] theorem State.modChan_walk : (s.modChan c f).walk = s.walk := rfl
@[simp] theorem State.modChan_shadow : (s.modChan c f).shadow = s.shadow := rfl
@[simp] theorem State.modChan_inv : (s.modChan c f).inv = s.inv := rfl
@[simp] theorem State.modChan_bus : (s.modChan c f).bus = s.bus := rfl
@[simp] theorem State.modChan_log : (s.modChan c f).log = s.log := rfl
@[simp] theorem State.modChan_sticky : (s.modChan c f).sticky = s.sticky := rfl
@[simp] theorem State.modChan_ints : (s.modChan c f).ints = s.ints := rfl
@[simp] theorem State.modChan_cmd : (s.modChan c f).cmd = s.cmd := rfl
@[simp] theorem State.modChan_time : (s.modChan c f).time = s.time := rfl
@[simp] theorem State.modChan_freeCount : (s.modChan c f).freeCount = s.freeCount := rfl
@[simp] theorem State.modChan_pending : (s.modChan c f).pending = s.pending := rfl
end

section
variable (s : State) (f : Chan → Channel → Channel)
@[simp] theorem State.mapChans_resetHeld : (s.mapChans f).resetHeld = s.resetHeld := rfl
@[simp] theorem State.mapChans_windowBase : (s.mapChans f).windowBase = s.windowBase := rfl
@[simp] theorem State.mapChans_bridge : (s.mapChans f).bridge = s.bridge := rfl
@[simp] theorem State.mapChans_tc : (s.mapChans f).tc = s.tc := rfl
@[simp] theorem State.mapChans_walk : (s.mapChans f).walk = s.walk := rfl
@[simp] theorem State.mapChans_shadow : (s.mapChans f).shadow = s.shadow := rfl
@[simp] theorem State.mapChans_inv : (s.mapChans f).inv = s.inv := rfl
@[simp] theorem State.mapChans_bus : (s.mapChans f).bus = s.bus := rfl
@[simp] theorem State.mapChans_log : (s.mapChans f).log = s.log := rfl
@[simp] theorem State.mapChans_sticky : (s.mapChans f).sticky = s.sticky := rfl
@[simp] theorem State.mapChans_ints : (s.mapChans f).ints = s.ints := rfl
@[simp] theorem State.mapChans_cmd : (s.mapChans f).cmd = s.cmd := rfl
@[simp] theorem State.mapChans_time : (s.mapChans f).time = s.time := rfl
@[simp] theorem State.mapChans_freeCount : (s.mapChans f).freeCount = s.freeCount := rfl
@[simp] theorem State.mapChans_pending : (s.mapChans f).pending = s.pending := rfl
end

section
variable (s : State) (c : Chan) (b : Buffer)
@[simp] theorem State.setBuffer_resetHeld : (s.setBuffer c b).resetHeld = s.resetHeld := rfl
@[simp] theorem State.setBuffer_windowBase : (s.setBuffer c b).windowBase = s.windowBase := rfl
@[simp] theorem State.setBuffer_bridge : (s.setBuffer c b).bridge = s.bridge := rfl
@[simp] theorem State.setBuffer_tc : (s.setBuffer c b).tc = s.tc := rfl
@[simp] theorem State.setBuffer_walk : (s.setBuffer c b).walk = s.walk := rfl
@[simp] theorem State.setBuffer_shadow : (s.setBuffer c b).shadow = s.shadow := rfl
@[simp] theorem State.setBuffer_inv : (s.setBuffer c b).inv = s.inv := rfl
@[simp] theorem State.setBuffer_bus : (s.setBuffer c b).bus = s.bus := rfl
@[simp] theorem State.setBuffer_log : (s.setBuffer c b).log = s.log := rfl
@[simp] theorem State.setBuffer_sticky : (s.setBuffer c b).sticky = s.sticky := rfl
@[simp] theorem State.setBuffer_ints : (s.setBuffer c b).ints = s.ints := rfl
@[simp] theorem State.setBuffer_cmd : (s.setBuffer c b).cmd = s.cmd := rfl
@[simp] theorem State.setBuffer_time : (s.setBuffer c b).time = s.time := rfl
@[simp] theorem State.setBuffer_freeCount : (s.setBuffer c b).freeCount = s.freeCount := rfl
@[simp] theorem State.setBuffer_pending : (s.setBuffer c b).pending = s.pending := rfl
end

section
variable (s : State) (c : Chan) (a : Answer)
@[simp] theorem State.answer_resetHeld : (s.answer c a).resetHeld = s.resetHeld := rfl
@[simp] theorem State.answer_windowBase : (s.answer c a).windowBase = s.windowBase := rfl
@[simp] theorem State.answer_bridge : (s.answer c a).bridge = s.bridge := rfl
@[simp] theorem State.answer_tc : (s.answer c a).tc = s.tc := rfl
@[simp] theorem State.answer_walk : (s.answer c a).walk = s.walk := rfl
@[simp] theorem State.answer_shadow : (s.answer c a).shadow = s.shadow := rfl
@[simp] theorem State.answer_inv : (s.answer c a).inv = s.inv := rfl
@[simp] theorem State.answer_bus : (s.answer c a).bus = s.bus := rfl
@[simp] theorem State.answer_log : (s.answer c a).log = s.log := rfl
@[simp] theorem State.answer_sticky : (s.answer c a).sticky = s.sticky := rfl
@[simp] theorem State.answer_ints : (s.answer c a).ints = s.ints := rfl
@[simp] theorem State.answer_cmd : (s.answer c a).cmd = s.cmd := rfl
@[simp] theorem State.answer_time : (s.answer c a).time = s.time := rfl
@[simp] theorem State.answer_freeCount : (s.answer c a).freeCount = s.freeCount := rfl
@[simp] theorem State.answer_pending : (s.answer c a).pending = s.pending := rfl
end

section
variable (s : State) (c : Chan)
@[simp] theorem State.endReservation_resetHeld : (s.endReservation c).resetHeld = s.resetHeld := rfl
@[simp] theorem State.endReservation_windowBase : (s.endReservation c).windowBase = s.windowBase := rfl
@[simp] theorem State.endReservation_bridge : (s.endReservation c).bridge = s.bridge := rfl
@[simp] theorem State.endReservation_tc : (s.endReservation c).tc = s.tc := rfl
@[simp] theorem State.endReservation_walk : (s.endReservation c).walk = s.walk := rfl
@[simp] theorem State.endReservation_shadow : (s.endReservation c).shadow = s.shadow := rfl
@[simp] theorem State.endReservation_inv : (s.endReservation c).inv = s.inv := rfl
@[simp] theorem State.endReservation_bus : (s.endReservation c).bus = s.bus := rfl
@[simp] theorem State.endReservation_log : (s.endReservation c).log = s.log := rfl
@[simp] theorem State.endReservation_sticky : (s.endReservation c).sticky = s.sticky := rfl
@[simp] theorem State.endReservation_ints : (s.endReservation c).ints = s.ints := rfl
@[simp] theorem State.endReservation_cmd : (s.endReservation c).cmd = s.cmd := rfl
@[simp] theorem State.endReservation_time : (s.endReservation c).time = s.time := rfl
@[simp] theorem State.endReservation_freeCount : (s.endReservation c).freeCount = s.freeCount := rfl
@[simp] theorem State.endReservation_pending : (s.endReservation c).pending = s.pending := rfl
end

section
variable (s : State) (c : Chan) (tr : Translation)
@[simp] theorem State.waitForBuffer_resetHeld : (s.waitForBuffer c tr).resetHeld = s.resetHeld := rfl
@[simp] theorem State.waitForBuffer_windowBase : (s.waitForBuffer c tr).windowBase = s.windowBase := rfl
@[simp] theorem State.waitForBuffer_bridge : (s.waitForBuffer c tr).bridge = s.bridge := rfl
@[simp] theorem State.waitForBuffer_tc : (s.waitForBuffer c tr).tc = s.tc := rfl
@[simp] theorem State.waitForBuffer_walk : (s.waitForBuffer c tr).walk = s.walk := rfl
@[simp] theorem State.waitForBuffer_shadow : (s.waitForBuffer c tr).shadow = s.shadow := rfl
@[simp] theorem State.waitForBuffer_inv : (s.waitForBuffer c tr).inv = s.inv := rfl
@[simp] theorem State.waitForBuffer_bus : (s.waitForBuffer c tr).bus = s.bus := rfl
@[simp] theorem State.waitForBuffer_log : (s.waitForBuffer c tr).log = s.log := rfl
@[simp] theorem State.waitForBuffer_sticky : (s.waitForBuffer c tr).sticky = s.sticky := rfl
@[simp] theorem State.waitForBuffer_ints : (s.waitForBuffer c tr).ints = s.ints := rfl
@[simp] theorem State.waitForBuffer_cmd : (s.waitForBuffer c tr).cmd = s.cmd := rfl
@[simp] theorem State.waitForBuffer_time : (s.waitForBuffer c tr).time = s.time := rfl
@[simp] theorem State.waitForBuffer_freeCount : (s.waitForBuffer c tr).freeCount = s.freeCount := rfl
@[simp] theorem State.waitForBuffer_pending : (s.waitForBuffer c tr).pending = s.pending := rfl
end

section
variable (s : State) (c : Chan) (tr : Translation)
@[simp] theorem State.requestLineRead_resetHeld : (s.requestLineRead c tr).resetHeld = s.resetHeld := rfl
@[simp] theorem State.requestLineRead_windowBase : (s.requestLineRead c tr).windowBase = s.windowBase := rfl
@[simp] theorem State.requestLineRead_bridge : (s.requestLineRead c tr).bridge = s.bridge := rfl
@[simp] theorem State.requestLineRead_tc : (s.requestLineRead c tr).tc = s.tc := rfl
@[simp] theorem State.requestLineRead_walk : (s.requestLineRead c tr).walk = s.walk := rfl
@[simp] theorem State.requestLineRead_shadow : (s.requestLineRead c tr).shadow = s.shadow := rfl
@[simp] theorem State.requestLineRead_inv : (s.requestLineRead c tr).inv = s.inv := rfl
@[simp] theorem State.requestLineRead_bus : (s.requestLineRead c tr).bus = s.bus := rfl
@[simp] theorem State.requestLineRead_log : (s.requestLineRead c tr).log = s.log := rfl
@[simp] theorem State.requestLineRead_sticky : (s.requestLineRead c tr).sticky = s.sticky := rfl
@[simp] theorem State.requestLineRead_ints : (s.requestLineRead c tr).ints = s.ints := rfl
@[simp] theorem State.requestLineRead_cmd : (s.requestLineRead c tr).cmd = s.cmd := rfl
@[simp] theorem State.requestLineRead_time : (s.requestLineRead c tr).time = s.time := rfl
@[simp] theorem State.requestLineRead_freeCount : (s.requestLineRead c tr).freeCount = s.freeCount := rfl
@[simp] theorem State.requestLineRead_pending : (s.requestLineRead c tr).pending = s.pending := rfl
end

section
variable (s : State)
@[simp] theorem State.raiseFillWay_resetHeld : (s.raiseFillWay).resetHeld = s.resetHeld := rfl
@[simp] theorem State.raiseFillWay_windowBase : (s.raiseFillWay).windowBase = s.windowBase := rfl
@[simp] theorem State.raiseFillWay_bridge : (s.raiseFillWay).bridge = s.bridge := rfl
@[simp] theorem State.raiseFillWay_tc : (s.raiseFillWay).tc = s.tc := rfl
@[simp] theorem State.raiseFillWay_walk : (s.raiseFillWay).walk = s.walk := rfl
@[simp] theorem State.raiseFillWay_shadow : (s.raiseFillWay).shadow = s.shadow := rfl
@[simp] theorem State.raiseFillWay_inv : (s.raiseFillWay).inv = s.inv := rfl
@[simp] theorem State.raiseFillWay_bus : (s.raiseFillWay).bus = s.bus := rfl
@[simp] theorem State.raiseFillWay_log : (s.raiseFillWay).log = s.log := rfl
@[simp] theorem State.raiseFillWay_cmd : (s.raiseFillWay).cmd = s.cmd := rfl
@[simp] theorem State.raiseFillWay_time : (s.raiseFillWay).time = s.time := rfl
@[simp] theorem State.raiseFillWay_freeCount : (s.raiseFillWay).freeCount = s.freeCount := rfl
@[simp] theorem State.raiseFillWay_pending : (s.raiseFillWay).pending = s.pending := rfl
@[simp] theorem State.raiseFillWay_chans : (s.raiseFillWay).chans = s.chans := rfl
end

section
variable (s : State)
@[simp] theorem State.raiseKillFail_resetHeld : (s.raiseKillFail).resetHeld = s.resetHeld := rfl
@[simp] theorem State.raiseKillFail_windowBase : (s.raiseKillFail).windowBase = s.windowBase := rfl
@[simp] theorem State.raiseKillFail_bridge : (s.raiseKillFail).bridge = s.bridge := rfl
@[simp] theorem State.raiseKillFail_tc : (s.raiseKillFail).tc = s.tc := rfl
@[simp] theorem State.raiseKillFail_walk : (s.raiseKillFail).walk = s.walk := rfl
@[simp] theorem State.raiseKillFail_shadow : (s.raiseKillFail).shadow = s.shadow := rfl
@[simp] theorem State.raiseKillFail_inv : (s.raiseKillFail).inv = s.inv := rfl
@[simp] theorem State.raiseKillFail_bus : (s.raiseKillFail).bus = s.bus := rfl
@[simp] theorem State.raiseKillFail_log : (s.raiseKillFail).log = s.log := rfl
@[simp] theorem State.raiseKillFail_cmd : (s.raiseKillFail).cmd = s.cmd := rfl
@[simp] theorem State.raiseKillFail_time : (s.raiseKillFail).time = s.time := rfl
@[simp] theorem State.raiseKillFail_freeCount : (s.raiseKillFail).freeCount = s.freeCount := rfl
@[simp] theorem State.raiseKillFail_pending : (s.raiseKillFail).pending = s.pending := rfl
@[simp] theorem State.raiseKillFail_chans : (s.raiseKillFail).chans = s.chans := rfl
end

section
variable (s : State)
@[simp] theorem State.raiseDescIgnored_resetHeld : (s.raiseDescIgnored).resetHeld = s.resetHeld := rfl
@[simp] theorem State.raiseDescIgnored_windowBase : (s.raiseDescIgnored).windowBase = s.windowBase := rfl
@[simp] theorem State.raiseDescIgnored_bridge : (s.raiseDescIgnored).bridge = s.bridge := rfl
@[simp] theorem State.raiseDescIgnored_tc : (s.raiseDescIgnored).tc = s.tc := rfl
@[simp] theorem State.raiseDescIgnored_walk : (s.raiseDescIgnored).walk = s.walk := rfl
@[simp] theorem State.raiseDescIgnored_shadow : (s.raiseDescIgnored).shadow = s.shadow := rfl
@[simp] theorem State.raiseDescIgnored_inv : (s.raiseDescIgnored).inv = s.inv := rfl
@[simp] theorem State.raiseDescIgnored_bus : (s.raiseDescIgnored).bus = s.bus := rfl
@[simp] theorem State.raiseDescIgnored_log : (s.raiseDescIgnored).log = s.log := rfl
@[simp] theorem State.raiseDescIgnored_ints : (s.raiseDescIgnored).ints = s.ints := rfl
@[simp] theorem State.raiseDescIgnored_cmd : (s.raiseDescIgnored).cmd = s.cmd := rfl
@[simp] theorem State.raiseDescIgnored_time : (s.raiseDescIgnored).time = s.time := rfl
@[simp] theorem State.raiseDescIgnored_freeCount : (s.raiseDescIgnored).freeCount = s.freeCount := rfl
@[simp] theorem State.raiseDescIgnored_pending : (s.raiseDescIgnored).pending = s.pending := rfl
@[simp] theorem State.raiseDescIgnored_chans : (s.raiseDescIgnored).chans = s.chans := rfl
end

section
variable (s : State)
@[simp] theorem State.raiseCmdOverrun_resetHeld : (s.raiseCmdOverrun).resetHeld = s.resetHeld := rfl
@[simp] theorem State.raiseCmdOverrun_windowBase : (s.raiseCmdOverrun).windowBase = s.windowBase := rfl
@[simp] theorem State.raiseCmdOverrun_bridge : (s.raiseCmdOverrun).bridge = s.bridge := rfl
@[simp] theorem State.raiseCmdOverrun_tc : (s.raiseCmdOverrun).tc = s.tc := rfl
@[simp] theorem State.raiseCmdOverrun_walk : (s.raiseCmdOverrun).walk = s.walk := rfl
@[simp] theorem State.raiseCmdOverrun_shadow : (s.raiseCmdOverrun).shadow = s.shadow := rfl
@[simp] theorem State.raiseCmdOverrun_inv : (s.raiseCmdOverrun).inv = s.inv := rfl
@[simp] theorem State.raiseCmdOverrun_bus : (s.raiseCmdOverrun).bus = s.bus := rfl
@[simp] theorem State.raiseCmdOverrun_log : (s.raiseCmdOverrun).log = s.log := rfl
@[simp] theorem State.raiseCmdOverrun_ints : (s.raiseCmdOverrun).ints = s.ints := rfl
@[simp] theorem State.raiseCmdOverrun_cmd : (s.raiseCmdOverrun).cmd = s.cmd := rfl
@[simp] theorem State.raiseCmdOverrun_time : (s.raiseCmdOverrun).time = s.time := rfl
@[simp] theorem State.raiseCmdOverrun_freeCount : (s.raiseCmdOverrun).freeCount = s.freeCount := rfl
@[simp] theorem State.raiseCmdOverrun_pending : (s.raiseCmdOverrun).pending = s.pending := rfl
@[simp] theorem State.raiseCmdOverrun_chans : (s.raiseCmdOverrun).chans = s.chans := rfl
end

section
variable (s : State)
@[simp] theorem State.raiseBadWrite_resetHeld : (s.raiseBadWrite).resetHeld = s.resetHeld := rfl
@[simp] theorem State.raiseBadWrite_windowBase : (s.raiseBadWrite).windowBase = s.windowBase := rfl
@[simp] theorem State.raiseBadWrite_bridge : (s.raiseBadWrite).bridge = s.bridge := rfl
@[simp] theorem State.raiseBadWrite_tc : (s.raiseBadWrite).tc = s.tc := rfl
@[simp] theorem State.raiseBadWrite_walk : (s.raiseBadWrite).walk = s.walk := rfl
@[simp] theorem State.raiseBadWrite_shadow : (s.raiseBadWrite).shadow = s.shadow := rfl
@[simp] theorem State.raiseBadWrite_inv : (s.raiseBadWrite).inv = s.inv := rfl
@[simp] theorem State.raiseBadWrite_bus : (s.raiseBadWrite).bus = s.bus := rfl
@[simp] theorem State.raiseBadWrite_log : (s.raiseBadWrite).log = s.log := rfl
@[simp] theorem State.raiseBadWrite_ints : (s.raiseBadWrite).ints = s.ints := rfl
@[simp] theorem State.raiseBadWrite_cmd : (s.raiseBadWrite).cmd = s.cmd := rfl
@[simp] theorem State.raiseBadWrite_time : (s.raiseBadWrite).time = s.time := rfl
@[simp] theorem State.raiseBadWrite_freeCount : (s.raiseBadWrite).freeCount = s.freeCount := rfl
@[simp] theorem State.raiseBadWrite_pending : (s.raiseBadWrite).pending = s.pending := rfl
@[simp] theorem State.raiseBadWrite_chans : (s.raiseBadWrite).chans = s.chans := rfl
end

section
variable (s : State) (c : Chan)
@[simp] theorem State.raiseChannelOff_resetHeld : (s.raiseChannelOff c).resetHeld = s.resetHeld := rfl
@[simp] theorem State.raiseChannelOff_windowBase : (s.raiseChannelOff c).windowBase = s.windowBase := rfl
@[simp] theorem State.raiseChannelOff_bridge : (s.raiseChannelOff c).bridge = s.bridge := rfl
@[simp] theorem State.raiseChannelOff_tc : (s.raiseChannelOff c).tc = s.tc := rfl
@[simp] theorem State.raiseChannelOff_walk : (s.raiseChannelOff c).walk = s.walk := rfl
@[simp] theorem State.raiseChannelOff_shadow : (s.raiseChannelOff c).shadow = s.shadow := rfl
@[simp] theorem State.raiseChannelOff_inv : (s.raiseChannelOff c).inv = s.inv := rfl
@[simp] theorem State.raiseChannelOff_bus : (s.raiseChannelOff c).bus = s.bus := rfl
@[simp] theorem State.raiseChannelOff_log : (s.raiseChannelOff c).log = s.log := rfl
@[simp] theorem State.raiseChannelOff_sticky : (s.raiseChannelOff c).sticky = s.sticky := rfl
@[simp] theorem State.raiseChannelOff_cmd : (s.raiseChannelOff c).cmd = s.cmd := rfl
@[simp] theorem State.raiseChannelOff_time : (s.raiseChannelOff c).time = s.time := rfl
@[simp] theorem State.raiseChannelOff_freeCount : (s.raiseChannelOff c).freeCount = s.freeCount := rfl
@[simp] theorem State.raiseChannelOff_pending : (s.raiseChannelOff c).pending = s.pending := rfl
@[simp] theorem State.raiseChannelOff_chans : (s.raiseChannelOff c).chans = s.chans := rfl
end

section
variable (s : State)
@[simp] theorem State.raiseSweepDone_resetHeld : (s.raiseSweepDone).resetHeld = s.resetHeld := rfl
@[simp] theorem State.raiseSweepDone_windowBase : (s.raiseSweepDone).windowBase = s.windowBase := rfl
@[simp] theorem State.raiseSweepDone_bridge : (s.raiseSweepDone).bridge = s.bridge := rfl
@[simp] theorem State.raiseSweepDone_tc : (s.raiseSweepDone).tc = s.tc := rfl
@[simp] theorem State.raiseSweepDone_walk : (s.raiseSweepDone).walk = s.walk := rfl
@[simp] theorem State.raiseSweepDone_shadow : (s.raiseSweepDone).shadow = s.shadow := rfl
@[simp] theorem State.raiseSweepDone_inv : (s.raiseSweepDone).inv = s.inv := rfl
@[simp] theorem State.raiseSweepDone_bus : (s.raiseSweepDone).bus = s.bus := rfl
@[simp] theorem State.raiseSweepDone_log : (s.raiseSweepDone).log = s.log := rfl
@[simp] theorem State.raiseSweepDone_sticky : (s.raiseSweepDone).sticky = s.sticky := rfl
@[simp] theorem State.raiseSweepDone_cmd : (s.raiseSweepDone).cmd = s.cmd := rfl
@[simp] theorem State.raiseSweepDone_time : (s.raiseSweepDone).time = s.time := rfl
@[simp] theorem State.raiseSweepDone_freeCount : (s.raiseSweepDone).freeCount = s.freeCount := rfl
@[simp] theorem State.raiseSweepDone_pending : (s.raiseSweepDone).pending = s.pending := rfl
@[simp] theorem State.raiseSweepDone_chans : (s.raiseSweepDone).chans = s.chans := rfl
end

section
variable (s : State) (v : Word)
@[simp] theorem State.clearStatus_resetHeld : (s.clearStatus v).resetHeld = s.resetHeld := rfl
@[simp] theorem State.clearStatus_windowBase : (s.clearStatus v).windowBase = s.windowBase := rfl
@[simp] theorem State.clearStatus_bridge : (s.clearStatus v).bridge = s.bridge := rfl
@[simp] theorem State.clearStatus_tc : (s.clearStatus v).tc = s.tc := rfl
@[simp] theorem State.clearStatus_walk : (s.clearStatus v).walk = s.walk := rfl
@[simp] theorem State.clearStatus_shadow : (s.clearStatus v).shadow = s.shadow := rfl
@[simp] theorem State.clearStatus_inv : (s.clearStatus v).inv = s.inv := rfl
@[simp] theorem State.clearStatus_bus : (s.clearStatus v).bus = s.bus := rfl
@[simp] theorem State.clearStatus_log : (s.clearStatus v).log = s.log := rfl
@[simp] theorem State.clearStatus_ints : (s.clearStatus v).ints = s.ints := rfl
@[simp] theorem State.clearStatus_cmd : (s.clearStatus v).cmd = s.cmd := rfl
@[simp] theorem State.clearStatus_time : (s.clearStatus v).time = s.time := rfl
@[simp] theorem State.clearStatus_freeCount : (s.clearStatus v).freeCount = s.freeCount := rfl
@[simp] theorem State.clearStatus_pending : (s.clearStatus v).pending = s.pending := rfl
@[simp] theorem State.clearStatus_chans : (s.clearStatus v).chans = s.chans := rfl
end

section
variable (s : State) (v : Word)
@[simp] theorem State.clearCauses_resetHeld : (s.clearCauses v).resetHeld = s.resetHeld := rfl
@[simp] theorem State.clearCauses_windowBase : (s.clearCauses v).windowBase = s.windowBase := rfl
@[simp] theorem State.clearCauses_bridge : (s.clearCauses v).bridge = s.bridge := rfl
@[simp] theorem State.clearCauses_tc : (s.clearCauses v).tc = s.tc := rfl
@[simp] theorem State.clearCauses_walk : (s.clearCauses v).walk = s.walk := rfl
@[simp] theorem State.clearCauses_shadow : (s.clearCauses v).shadow = s.shadow := rfl
@[simp] theorem State.clearCauses_inv : (s.clearCauses v).inv = s.inv := rfl
@[simp] theorem State.clearCauses_bus : (s.clearCauses v).bus = s.bus := rfl
@[simp] theorem State.clearCauses_log : (s.clearCauses v).log = s.log := rfl
@[simp] theorem State.clearCauses_sticky : (s.clearCauses v).sticky = s.sticky := rfl
@[simp] theorem State.clearCauses_cmd : (s.clearCauses v).cmd = s.cmd := rfl
@[simp] theorem State.clearCauses_time : (s.clearCauses v).time = s.time := rfl
@[simp] theorem State.clearCauses_freeCount : (s.clearCauses v).freeCount = s.freeCount := rfl
@[simp] theorem State.clearCauses_pending : (s.clearCauses v).pending = s.pending := rfl
@[simp] theorem State.clearCauses_chans : (s.clearCauses v).chans = s.chans := rfl
end

section
variable (s : State) (v : Word)
@[simp] theorem State.clearChannelOff_resetHeld : (s.clearChannelOff v).resetHeld = s.resetHeld := rfl
@[simp] theorem State.clearChannelOff_windowBase : (s.clearChannelOff v).windowBase = s.windowBase := rfl
@[simp] theorem State.clearChannelOff_bridge : (s.clearChannelOff v).bridge = s.bridge := rfl
@[simp] theorem State.clearChannelOff_tc : (s.clearChannelOff v).tc = s.tc := rfl
@[simp] theorem State.clearChannelOff_walk : (s.clearChannelOff v).walk = s.walk := rfl
@[simp] theorem State.clearChannelOff_shadow : (s.clearChannelOff v).shadow = s.shadow := rfl
@[simp] theorem State.clearChannelOff_inv : (s.clearChannelOff v).inv = s.inv := rfl
@[simp] theorem State.clearChannelOff_bus : (s.clearChannelOff v).bus = s.bus := rfl
@[simp] theorem State.clearChannelOff_log : (s.clearChannelOff v).log = s.log := rfl
@[simp] theorem State.clearChannelOff_sticky : (s.clearChannelOff v).sticky = s.sticky := rfl
@[simp] theorem State.clearChannelOff_cmd : (s.clearChannelOff v).cmd = s.cmd := rfl
@[simp] theorem State.clearChannelOff_time : (s.clearChannelOff v).time = s.time := rfl
@[simp] theorem State.clearChannelOff_freeCount : (s.clearChannelOff v).freeCount = s.freeCount := rfl
@[simp] theorem State.clearChannelOff_pending : (s.clearChannelOff v).pending = s.pending := rfl
@[simp] theorem State.clearChannelOff_chans : (s.clearChannelOff v).chans = s.chans := rfl
end

section
variable (s : State) (v : Word)
@[simp] theorem State.writeMask_resetHeld : (s.writeMask v).resetHeld = s.resetHeld := rfl
@[simp] theorem State.writeMask_windowBase : (s.writeMask v).windowBase = s.windowBase := rfl
@[simp] theorem State.writeMask_bridge : (s.writeMask v).bridge = s.bridge := rfl
@[simp] theorem State.writeMask_tc : (s.writeMask v).tc = s.tc := rfl
@[simp] theorem State.writeMask_walk : (s.writeMask v).walk = s.walk := rfl
@[simp] theorem State.writeMask_shadow : (s.writeMask v).shadow = s.shadow := rfl
@[simp] theorem State.writeMask_inv : (s.writeMask v).inv = s.inv := rfl
@[simp] theorem State.writeMask_bus : (s.writeMask v).bus = s.bus := rfl
@[simp] theorem State.writeMask_log : (s.writeMask v).log = s.log := rfl
@[simp] theorem State.writeMask_sticky : (s.writeMask v).sticky = s.sticky := rfl
@[simp] theorem State.writeMask_cmd : (s.writeMask v).cmd = s.cmd := rfl
@[simp] theorem State.writeMask_time : (s.writeMask v).time = s.time := rfl
@[simp] theorem State.writeMask_freeCount : (s.writeMask v).freeCount = s.freeCount := rfl
@[simp] theorem State.writeMask_pending : (s.writeMask v).pending = s.pending := rfl
@[simp] theorem State.writeMask_chans : (s.writeMask v).chans = s.chans := rfl
end

section
variable (s : State) (c : Chan)
@[simp] theorem State.reachDisabled_resetHeld : (s.reachDisabled c).resetHeld = s.resetHeld := rfl
@[simp] theorem State.reachDisabled_windowBase : (s.reachDisabled c).windowBase = s.windowBase := rfl
@[simp] theorem State.reachDisabled_bridge : (s.reachDisabled c).bridge = s.bridge := rfl
@[simp] theorem State.reachDisabled_walk : (s.reachDisabled c).walk = s.walk := rfl
@[simp] theorem State.reachDisabled_shadow : (s.reachDisabled c).shadow = s.shadow := rfl
@[simp] theorem State.reachDisabled_inv : (s.reachDisabled c).inv = s.inv := rfl
@[simp] theorem State.reachDisabled_bus : (s.reachDisabled c).bus = s.bus := rfl
@[simp] theorem State.reachDisabled_log : (s.reachDisabled c).log = s.log := rfl
@[simp] theorem State.reachDisabled_sticky : (s.reachDisabled c).sticky = s.sticky := rfl
@[simp] theorem State.reachDisabled_cmd : (s.reachDisabled c).cmd = s.cmd := rfl
@[simp] theorem State.reachDisabled_time : (s.reachDisabled c).time = s.time := rfl
@[simp] theorem State.reachDisabled_freeCount : (s.reachDisabled c).freeCount = s.freeCount := rfl
@[simp] theorem State.reachDisabled_pending : (s.reachDisabled c).pending = s.pending := rfl
end

section
variable (s : State) (i : Fin 2) (c : Chan) (p : Page)
@[simp] theorem State.takeSlot_resetHeld : (s.takeSlot i c p).resetHeld = s.resetHeld := rfl
@[simp] theorem State.takeSlot_windowBase : (s.takeSlot i c p).windowBase = s.windowBase := rfl
@[simp] theorem State.takeSlot_bridge : (s.takeSlot i c p).bridge = s.bridge := rfl
@[simp] theorem State.takeSlot_tc : (s.takeSlot i c p).tc = s.tc := rfl
@[simp] theorem State.takeSlot_shadow : (s.takeSlot i c p).shadow = s.shadow := rfl
@[simp] theorem State.takeSlot_inv : (s.takeSlot i c p).inv = s.inv := rfl
@[simp] theorem State.takeSlot_bus : (s.takeSlot i c p).bus = s.bus := rfl
@[simp] theorem State.takeSlot_log : (s.takeSlot i c p).log = s.log := rfl
@[simp] theorem State.takeSlot_sticky : (s.takeSlot i c p).sticky = s.sticky := rfl
@[simp] theorem State.takeSlot_ints : (s.takeSlot i c p).ints = s.ints := rfl
@[simp] theorem State.takeSlot_cmd : (s.takeSlot i c p).cmd = s.cmd := rfl
@[simp] theorem State.takeSlot_time : (s.takeSlot i c p).time = s.time := rfl
@[simp] theorem State.takeSlot_freeCount : (s.takeSlot i c p).freeCount = s.freeCount := rfl
@[simp] theorem State.takeSlot_pending : (s.takeSlot i c p).pending = s.pending := rfl
@[simp] theorem State.takeSlot_chans : (s.takeSlot i c p).chans = s.chans := rfl
end

section
variable (s : State) (id : Nat)
@[simp] theorem State.freeRecord_resetHeld : (s.freeRecord id).resetHeld = s.resetHeld := rfl
@[simp] theorem State.freeRecord_windowBase : (s.freeRecord id).windowBase = s.windowBase := rfl
@[simp] theorem State.freeRecord_bridge : (s.freeRecord id).bridge = s.bridge := rfl
@[simp] theorem State.freeRecord_tc : (s.freeRecord id).tc = s.tc := rfl
@[simp] theorem State.freeRecord_walk : (s.freeRecord id).walk = s.walk := rfl
@[simp] theorem State.freeRecord_shadow : (s.freeRecord id).shadow = s.shadow := rfl
@[simp] theorem State.freeRecord_inv : (s.freeRecord id).inv = s.inv := rfl
@[simp] theorem State.freeRecord_log : (s.freeRecord id).log = s.log := rfl
@[simp] theorem State.freeRecord_sticky : (s.freeRecord id).sticky = s.sticky := rfl
@[simp] theorem State.freeRecord_ints : (s.freeRecord id).ints = s.ints := rfl
@[simp] theorem State.freeRecord_cmd : (s.freeRecord id).cmd = s.cmd := rfl
@[simp] theorem State.freeRecord_time : (s.freeRecord id).time = s.time := rfl
@[simp] theorem State.freeRecord_freeCount : (s.freeRecord id).freeCount = s.freeCount := rfl
@[simp] theorem State.freeRecord_pending : (s.freeRecord id).pending = s.pending := rfl
@[simp] theorem State.freeRecord_chans : (s.freeRecord id).chans = s.chans := rfl
end

section
variable (s : State) (n : CommandName) (ch : BitVec 4) (p : BitVec 14) (o : CmdOutcome)
@[simp] theorem State.completeCommand_resetHeld : (s.completeCommand n ch p o).resetHeld = s.resetHeld := rfl
@[simp] theorem State.completeCommand_windowBase : (s.completeCommand n ch p o).windowBase = s.windowBase := rfl
@[simp] theorem State.completeCommand_bridge : (s.completeCommand n ch p o).bridge = s.bridge := rfl
@[simp] theorem State.completeCommand_tc : (s.completeCommand n ch p o).tc = s.tc := rfl
@[simp] theorem State.completeCommand_walk : (s.completeCommand n ch p o).walk = s.walk := rfl
@[simp] theorem State.completeCommand_shadow : (s.completeCommand n ch p o).shadow = s.shadow := rfl
@[simp] theorem State.completeCommand_inv : (s.completeCommand n ch p o).inv = s.inv := rfl
@[simp] theorem State.completeCommand_bus : (s.completeCommand n ch p o).bus = s.bus := rfl
@[simp] theorem State.completeCommand_log : (s.completeCommand n ch p o).log = s.log := rfl
@[simp] theorem State.completeCommand_sticky : (s.completeCommand n ch p o).sticky = s.sticky := rfl
@[simp] theorem State.completeCommand_time : (s.completeCommand n ch p o).time = s.time := rfl
@[simp] theorem State.completeCommand_freeCount : (s.completeCommand n ch p o).freeCount = s.freeCount := rfl
@[simp] theorem State.completeCommand_pending : (s.completeCommand n ch p o).pending = s.pending := rfl
@[simp] theorem State.completeCommand_chans : (s.completeCommand n ch p o).chans = s.chans := rfl
end

section
variable (s : State) (n : CommandName) (ch : BitVec 4) (p : BitVec 14)
@[simp] theorem State.claimPort_resetHeld : (s.claimPort n ch p).resetHeld = s.resetHeld := rfl
@[simp] theorem State.claimPort_windowBase : (s.claimPort n ch p).windowBase = s.windowBase := rfl
@[simp] theorem State.claimPort_bridge : (s.claimPort n ch p).bridge = s.bridge := rfl
@[simp] theorem State.claimPort_tc : (s.claimPort n ch p).tc = s.tc := rfl
@[simp] theorem State.claimPort_walk : (s.claimPort n ch p).walk = s.walk := rfl
@[simp] theorem State.claimPort_shadow : (s.claimPort n ch p).shadow = s.shadow := rfl
@[simp] theorem State.claimPort_inv : (s.claimPort n ch p).inv = s.inv := rfl
@[simp] theorem State.claimPort_bus : (s.claimPort n ch p).bus = s.bus := rfl
@[simp] theorem State.claimPort_log : (s.claimPort n ch p).log = s.log := rfl
@[simp] theorem State.claimPort_sticky : (s.claimPort n ch p).sticky = s.sticky := rfl
@[simp] theorem State.claimPort_ints : (s.claimPort n ch p).ints = s.ints := rfl
@[simp] theorem State.claimPort_time : (s.claimPort n ch p).time = s.time := rfl
@[simp] theorem State.claimPort_freeCount : (s.claimPort n ch p).freeCount = s.freeCount := rfl
@[simp] theorem State.claimPort_pending : (s.claimPort n ch p).pending = s.pending := rfl
@[simp] theorem State.claimPort_chans : (s.claimPort n ch p).chans = s.chans := rfl
end

section
variable (s : State) (u : PortUser)
@[simp] theorem State.served_resetHeld : (s.served u).resetHeld = s.resetHeld := rfl
@[simp] theorem State.served_windowBase : (s.served u).windowBase = s.windowBase := rfl
@[simp] theorem State.served_bridge : (s.served u).bridge = s.bridge := rfl
@[simp] theorem State.served_walk : (s.served u).walk = s.walk := rfl
@[simp] theorem State.served_shadow : (s.served u).shadow = s.shadow := rfl
@[simp] theorem State.served_inv : (s.served u).inv = s.inv := rfl
@[simp] theorem State.served_bus : (s.served u).bus = s.bus := rfl
@[simp] theorem State.served_log : (s.served u).log = s.log := rfl
@[simp] theorem State.served_sticky : (s.served u).sticky = s.sticky := rfl
@[simp] theorem State.served_ints : (s.served u).ints = s.ints := rfl
@[simp] theorem State.served_cmd : (s.served u).cmd = s.cmd := rfl
@[simp] theorem State.served_time : (s.served u).time = s.time := rfl
@[simp] theorem State.served_freeCount : (s.served u).freeCount = s.freeCount := rfl
@[simp] theorem State.served_pending : (s.served u).pending = s.pending := rfl
@[simp] theorem State.served_chans : (s.served u).chans = s.chans := rfl
end

section
variable (s : State) (n : CommandName) (c : Chan) (p : Page)
@[simp] theorem State.flushTranslations_resetHeld : (s.flushTranslations n c p).resetHeld = s.resetHeld := rfl
@[simp] theorem State.flushTranslations_windowBase : (s.flushTranslations n c p).windowBase = s.windowBase := rfl
@[simp] theorem State.flushTranslations_bridge : (s.flushTranslations n c p).bridge = s.bridge := rfl
@[simp] theorem State.flushTranslations_shadow : (s.flushTranslations n c p).shadow = s.shadow := rfl
@[simp] theorem State.flushTranslations_inv : (s.flushTranslations n c p).inv = s.inv := rfl
@[simp] theorem State.flushTranslations_bus : (s.flushTranslations n c p).bus = s.bus := rfl
@[simp] theorem State.flushTranslations_log : (s.flushTranslations n c p).log = s.log := rfl
@[simp] theorem State.flushTranslations_sticky : (s.flushTranslations n c p).sticky = s.sticky := rfl
@[simp] theorem State.flushTranslations_ints : (s.flushTranslations n c p).ints = s.ints := rfl
@[simp] theorem State.flushTranslations_cmd : (s.flushTranslations n c p).cmd = s.cmd := rfl
@[simp] theorem State.flushTranslations_time : (s.flushTranslations n c p).time = s.time := rfl
@[simp] theorem State.flushTranslations_freeCount : (s.flushTranslations n c p).freeCount = s.freeCount := rfl
@[simp] theorem State.flushTranslations_pending : (s.flushTranslations n c p).pending = s.pending := rfl
@[simp] theorem State.flushTranslations_chans : (s.flushTranslations n c p).chans = s.chans := rfl
end

section
variable (s : State) (v : Word)
@[simp] theorem State.writeDivisor_resetHeld : (s.writeDivisor v).resetHeld = s.resetHeld := rfl
@[simp] theorem State.writeDivisor_windowBase : (s.writeDivisor v).windowBase = s.windowBase := rfl
@[simp] theorem State.writeDivisor_bridge : (s.writeDivisor v).bridge = s.bridge := rfl
@[simp] theorem State.writeDivisor_tc : (s.writeDivisor v).tc = s.tc := rfl
@[simp] theorem State.writeDivisor_walk : (s.writeDivisor v).walk = s.walk := rfl
@[simp] theorem State.writeDivisor_shadow : (s.writeDivisor v).shadow = s.shadow := rfl
@[simp] theorem State.writeDivisor_inv : (s.writeDivisor v).inv = s.inv := rfl
@[simp] theorem State.writeDivisor_bus : (s.writeDivisor v).bus = s.bus := rfl
@[simp] theorem State.writeDivisor_log : (s.writeDivisor v).log = s.log := rfl
@[simp] theorem State.writeDivisor_sticky : (s.writeDivisor v).sticky = s.sticky := rfl
@[simp] theorem State.writeDivisor_ints : (s.writeDivisor v).ints = s.ints := rfl
@[simp] theorem State.writeDivisor_cmd : (s.writeDivisor v).cmd = s.cmd := rfl
@[simp] theorem State.writeDivisor_freeCount : (s.writeDivisor v).freeCount = s.freeCount := rfl
@[simp] theorem State.writeDivisor_pending : (s.writeDivisor v).pending = s.pending := rfl
@[simp] theorem State.writeDivisor_chans : (s.writeDivisor v).chans = s.chans := rfl
end

section
variable (s : State)
@[simp] theorem State.popFault_resetHeld : (s.popFault).resetHeld = s.resetHeld := rfl
@[simp] theorem State.popFault_windowBase : (s.popFault).windowBase = s.windowBase := rfl
@[simp] theorem State.popFault_bridge : (s.popFault).bridge = s.bridge := rfl
@[simp] theorem State.popFault_tc : (s.popFault).tc = s.tc := rfl
@[simp] theorem State.popFault_walk : (s.popFault).walk = s.walk := rfl
@[simp] theorem State.popFault_shadow : (s.popFault).shadow = s.shadow := rfl
@[simp] theorem State.popFault_inv : (s.popFault).inv = s.inv := rfl
@[simp] theorem State.popFault_bus : (s.popFault).bus = s.bus := rfl
@[simp] theorem State.popFault_sticky : (s.popFault).sticky = s.sticky := rfl
@[simp] theorem State.popFault_ints : (s.popFault).ints = s.ints := rfl
@[simp] theorem State.popFault_cmd : (s.popFault).cmd = s.cmd := rfl
@[simp] theorem State.popFault_time : (s.popFault).time = s.time := rfl
@[simp] theorem State.popFault_freeCount : (s.popFault).freeCount = s.freeCount := rfl
@[simp] theorem State.popFault_pending : (s.popFault).pending = s.pending := rfl
@[simp] theorem State.popFault_chans : (s.popFault).chans = s.chans := rfl
end

section
variable (s : State) (a b : Bool)
@[simp] theorem State.releaseReset_bridge : (s.releaseReset a b).bridge = s.bridge := rfl
@[simp] theorem State.releaseReset_tc : (s.releaseReset a b).tc = s.tc := rfl
@[simp] theorem State.releaseReset_walk : (s.releaseReset a b).walk = s.walk := rfl
@[simp] theorem State.releaseReset_shadow : (s.releaseReset a b).shadow = s.shadow := rfl
@[simp] theorem State.releaseReset_inv : (s.releaseReset a b).inv = s.inv := rfl
@[simp] theorem State.releaseReset_bus : (s.releaseReset a b).bus = s.bus := rfl
@[simp] theorem State.releaseReset_log : (s.releaseReset a b).log = s.log := rfl
@[simp] theorem State.releaseReset_sticky : (s.releaseReset a b).sticky = s.sticky := rfl
@[simp] theorem State.releaseReset_ints : (s.releaseReset a b).ints = s.ints := rfl
@[simp] theorem State.releaseReset_cmd : (s.releaseReset a b).cmd = s.cmd := rfl
@[simp] theorem State.releaseReset_time : (s.releaseReset a b).time = s.time := rfl
@[simp] theorem State.releaseReset_freeCount : (s.releaseReset a b).freeCount = s.freeCount := rfl
@[simp] theorem State.releaseReset_pending : (s.releaseReset a b).pending = s.pending := rfl
end

end Sys2Proof.Machine
end

