-- ==== Sys2Proof/Laws/Frames.lean ====
section
/-!
SUPPORT. For each shared operation, the parts of the state it never touches: one lemma per operation, a conjunction that
simp reads part by part.
-/

namespace Sys2Proof.Machine

@[simp] theorem State.takeFault_frame (s : State) (c : Chan) (k : Access) (a : ChanAddr) (x : Cause) :
    (s.takeFault c k a x).resetHeld = s.resetHeld
    ∧ (s.takeFault c k a x).windowBase = s.windowBase
    ∧ (s.takeFault c k a x).bridge = s.bridge
    ∧ (s.takeFault c k a x).tc = s.tc
    ∧ (s.takeFault c k a x).walk = s.walk
    ∧ (s.takeFault c k a x).shadow = s.shadow
    ∧ (s.takeFault c k a x).inv = s.inv
    ∧ (s.takeFault c k a x).bus = s.bus
    ∧ (s.takeFault c k a x).sticky = s.sticky
    ∧ (s.takeFault c k a x).cmd = s.cmd
    ∧ (s.takeFault c k a x).time = s.time
    ∧ (s.takeFault c k a x).freeCount = s.freeCount
    ∧ (s.takeFault c k a x).pending = s.pending := by
  simp only [State.takeFault]
  repeat' split
  all_goals simp

@[simp] theorem State.grantPlace_frame (s : State) :
    (s.grantPlace).resetHeld = s.resetHeld
    ∧ (s.grantPlace).windowBase = s.windowBase
    ∧ (s.grantPlace).bridge = s.bridge
    ∧ (s.grantPlace).tc = s.tc
    ∧ (s.grantPlace).walk = s.walk
    ∧ (s.grantPlace).shadow = s.shadow
    ∧ (s.grantPlace).bus = s.bus
    ∧ (s.grantPlace).log = s.log
    ∧ (s.grantPlace).sticky = s.sticky
    ∧ (s.grantPlace).ints = s.ints
    ∧ (s.grantPlace).cmd = s.cmd
    ∧ (s.grantPlace).time = s.time
    ∧ (s.grantPlace).freeCount = s.freeCount
    ∧ (s.grantPlace).pending = s.pending := by
  simp only [State.grantPlace]
  repeat' split
  all_goals simp

@[simp] theorem State.releaseReservation_frame (s : State) (c : Chan) :
    (s.releaseReservation c).resetHeld = s.resetHeld
    ∧ (s.releaseReservation c).windowBase = s.windowBase
    ∧ (s.releaseReservation c).bridge = s.bridge
    ∧ (s.releaseReservation c).tc = s.tc
    ∧ (s.releaseReservation c).walk = s.walk
    ∧ (s.releaseReservation c).shadow = s.shadow
    ∧ (s.releaseReservation c).bus = s.bus
    ∧ (s.releaseReservation c).log = s.log
    ∧ (s.releaseReservation c).sticky = s.sticky
    ∧ (s.releaseReservation c).ints = s.ints
    ∧ (s.releaseReservation c).cmd = s.cmd
    ∧ (s.releaseReservation c).time = s.time
    ∧ (s.releaseReservation c).freeCount = s.freeCount
    ∧ (s.releaseReservation c).pending = s.pending := by
  simp [State.releaseReservation]

@[simp] theorem State.queueInvalidate_frame (s : State) (c : Chan) (l : Word) :
    (s.queueInvalidate c l).resetHeld = s.resetHeld
    ∧ (s.queueInvalidate c l).windowBase = s.windowBase
    ∧ (s.queueInvalidate c l).bridge = s.bridge
    ∧ (s.queueInvalidate c l).tc = s.tc
    ∧ (s.queueInvalidate c l).walk = s.walk
    ∧ (s.queueInvalidate c l).shadow = s.shadow
    ∧ (s.queueInvalidate c l).bus = s.bus
    ∧ (s.queueInvalidate c l).log = s.log
    ∧ (s.queueInvalidate c l).sticky = s.sticky
    ∧ (s.queueInvalidate c l).ints = s.ints
    ∧ (s.queueInvalidate c l).cmd = s.cmd
    ∧ (s.queueInvalidate c l).time = s.time
    ∧ (s.queueInvalidate c l).freeCount = s.freeCount
    ∧ (s.queueInvalidate c l).pending = s.pending := by
  simp only [State.queueInvalidate]
  repeat' split
  all_goals simp

@[simp] theorem State.flushBuffer_frame (s : State) (c : Chan) :
    (s.flushBuffer c).resetHeld = s.resetHeld
    ∧ (s.flushBuffer c).windowBase = s.windowBase
    ∧ (s.flushBuffer c).bridge = s.bridge
    ∧ (s.flushBuffer c).tc = s.tc
    ∧ (s.flushBuffer c).walk = s.walk
    ∧ (s.flushBuffer c).shadow = s.shadow
    ∧ (s.flushBuffer c).bus = s.bus
    ∧ (s.flushBuffer c).log = s.log
    ∧ (s.flushBuffer c).sticky = s.sticky
    ∧ (s.flushBuffer c).ints = s.ints
    ∧ (s.flushBuffer c).cmd = s.cmd
    ∧ (s.flushBuffer c).time = s.time
    ∧ (s.flushBuffer c).freeCount = s.freeCount
    ∧ (s.flushBuffer c).pending = s.pending := by
  simp only [State.flushBuffer]
  repeat' split
  all_goals simp

@[simp] theorem State.enterFaulted_frame (s : State) (c : Chan) :
    (s.enterFaulted c).resetHeld = s.resetHeld
    ∧ (s.enterFaulted c).windowBase = s.windowBase
    ∧ (s.enterFaulted c).bridge = s.bridge
    ∧ (s.enterFaulted c).tc = s.tc
    ∧ (s.enterFaulted c).walk = s.walk
    ∧ (s.enterFaulted c).shadow = s.shadow
    ∧ (s.enterFaulted c).bus = s.bus
    ∧ (s.enterFaulted c).log = s.log
    ∧ (s.enterFaulted c).sticky = s.sticky
    ∧ (s.enterFaulted c).ints = s.ints
    ∧ (s.enterFaulted c).cmd = s.cmd
    ∧ (s.enterFaulted c).time = s.time
    ∧ (s.enterFaulted c).freeCount = s.freeCount
    ∧ (s.enterFaulted c).pending = s.pending := by
  simp only [State.enterFaulted]
  repeat' split
  all_goals simp

@[simp] theorem State.failTransaction_frame (s : State) (c : Chan) (k : Access) (a : ChanAddr) (x : Cause) (y : Answer) :
    (s.failTransaction c k a x y).resetHeld = s.resetHeld
    ∧ (s.failTransaction c k a x y).windowBase = s.windowBase
    ∧ (s.failTransaction c k a x y).bridge = s.bridge
    ∧ (s.failTransaction c k a x y).tc = s.tc
    ∧ (s.failTransaction c k a x y).walk = s.walk
    ∧ (s.failTransaction c k a x y).shadow = s.shadow
    ∧ (s.failTransaction c k a x y).bus = s.bus
    ∧ (s.failTransaction c k a x y).sticky = s.sticky
    ∧ (s.failTransaction c k a x y).cmd = s.cmd
    ∧ (s.failTransaction c k a x y).time = s.time
    ∧ (s.failTransaction c k a x y).freeCount = s.freeCount
    ∧ (s.failTransaction c k a x y).pending = s.pending := by
  simp [State.failTransaction]

@[simp] theorem State.trySync_frame (s : State) (c : Chan) :
    (s.trySync c).resetHeld = s.resetHeld
    ∧ (s.trySync c).windowBase = s.windowBase
    ∧ (s.trySync c).bridge = s.bridge
    ∧ (s.trySync c).tc = s.tc
    ∧ (s.trySync c).walk = s.walk
    ∧ (s.trySync c).shadow = s.shadow
    ∧ (s.trySync c).inv = s.inv
    ∧ (s.trySync c).bus = s.bus
    ∧ (s.trySync c).log = s.log
    ∧ (s.trySync c).sticky = s.sticky
    ∧ (s.trySync c).ints = s.ints
    ∧ (s.trySync c).cmd = s.cmd
    ∧ (s.trySync c).time = s.time
    ∧ (s.trySync c).freeCount = s.freeCount
    ∧ (s.trySync c).pending = s.pending := by
  simp only [State.trySync]
  repeat' split
  all_goals simp

@[simp] theorem State.tryDrain_frame (s : State) (c : Chan) :
    (s.tryDrain c).resetHeld = s.resetHeld
    ∧ (s.tryDrain c).windowBase = s.windowBase
    ∧ (s.tryDrain c).bridge = s.bridge
    ∧ (s.tryDrain c).walk = s.walk
    ∧ (s.tryDrain c).shadow = s.shadow
    ∧ (s.tryDrain c).inv = s.inv
    ∧ (s.tryDrain c).bus = s.bus
    ∧ (s.tryDrain c).log = s.log
    ∧ (s.tryDrain c).sticky = s.sticky
    ∧ (s.tryDrain c).cmd = s.cmd
    ∧ (s.tryDrain c).time = s.time
    ∧ (s.tryDrain c).freeCount = s.freeCount
    ∧ (s.tryDrain c).pending = s.pending := by
  simp only [State.tryDrain]
  repeat' split
  all_goals simp

@[simp] theorem State.tryAbort_frame (s : State) (c : Chan) :
    (s.tryAbort c).resetHeld = s.resetHeld
    ∧ (s.tryAbort c).windowBase = s.windowBase
    ∧ (s.tryAbort c).bridge = s.bridge
    ∧ (s.tryAbort c).walk = s.walk
    ∧ (s.tryAbort c).shadow = s.shadow
    ∧ (s.tryAbort c).inv = s.inv
    ∧ (s.tryAbort c).bus = s.bus
    ∧ (s.tryAbort c).log = s.log
    ∧ (s.tryAbort c).sticky = s.sticky
    ∧ (s.tryAbort c).cmd = s.cmd
    ∧ (s.tryAbort c).time = s.time
    ∧ (s.tryAbort c).freeCount = s.freeCount
    ∧ (s.tryAbort c).pending = s.pending := by
  simp only [State.tryAbort]
  repeat' split
  all_goals simp

@[simp] theorem State.settle_frame (s : State) (c : Chan) :
    (s.settle c).resetHeld = s.resetHeld
    ∧ (s.settle c).windowBase = s.windowBase
    ∧ (s.settle c).bridge = s.bridge
    ∧ (s.settle c).walk = s.walk
    ∧ (s.settle c).shadow = s.shadow
    ∧ (s.settle c).inv = s.inv
    ∧ (s.settle c).bus = s.bus
    ∧ (s.settle c).log = s.log
    ∧ (s.settle c).sticky = s.sticky
    ∧ (s.settle c).cmd = s.cmd
    ∧ (s.settle c).time = s.time
    ∧ (s.settle c).freeCount = s.freeCount
    ∧ (s.settle c).pending = s.pending := by
  simp [State.settle]

@[simp] theorem State.startWalk_frame (s : State) (c : Chan) (p : Page) :
    (s.startWalk c p).resetHeld = s.resetHeld
    ∧ (s.startWalk c p).windowBase = s.windowBase
    ∧ (s.startWalk c p).bridge = s.bridge
    ∧ (s.startWalk c p).tc = s.tc
    ∧ (s.startWalk c p).shadow = s.shadow
    ∧ (s.startWalk c p).inv = s.inv
    ∧ (s.startWalk c p).bus = s.bus
    ∧ (s.startWalk c p).log = s.log
    ∧ (s.startWalk c p).sticky = s.sticky
    ∧ (s.startWalk c p).ints = s.ints
    ∧ (s.startWalk c p).cmd = s.cmd
    ∧ (s.startWalk c p).time = s.time
    ∧ (s.startWalk c p).freeCount = s.freeCount
    ∧ (s.startWalk c p).pending = s.pending := by
  simp only [State.startWalk]
  repeat' split
  all_goals simp

@[simp] theorem State.freeSlot_frame (s : State) (i : Fin 2) :
    (s.freeSlot i).resetHeld = s.resetHeld
    ∧ (s.freeSlot i).windowBase = s.windowBase
    ∧ (s.freeSlot i).bridge = s.bridge
    ∧ (s.freeSlot i).tc = s.tc
    ∧ (s.freeSlot i).shadow = s.shadow
    ∧ (s.freeSlot i).inv = s.inv
    ∧ (s.freeSlot i).bus = s.bus
    ∧ (s.freeSlot i).log = s.log
    ∧ (s.freeSlot i).sticky = s.sticky
    ∧ (s.freeSlot i).ints = s.ints
    ∧ (s.freeSlot i).cmd = s.cmd
    ∧ (s.freeSlot i).time = s.time
    ∧ (s.freeSlot i).freeCount = s.freeCount
    ∧ (s.freeSlot i).pending = s.pending := by
  simp only [State.freeSlot]
  repeat' split
  all_goals simp

@[simp] theorem State.abortWalk_frame (s : State) (c : Chan) :
    (s.abortWalk c).resetHeld = s.resetHeld
    ∧ (s.abortWalk c).windowBase = s.windowBase
    ∧ (s.abortWalk c).bridge = s.bridge
    ∧ (s.abortWalk c).tc = s.tc
    ∧ (s.abortWalk c).shadow = s.shadow
    ∧ (s.abortWalk c).inv = s.inv
    ∧ (s.abortWalk c).bus = s.bus
    ∧ (s.abortWalk c).log = s.log
    ∧ (s.abortWalk c).sticky = s.sticky
    ∧ (s.abortWalk c).ints = s.ints
    ∧ (s.abortWalk c).cmd = s.cmd
    ∧ (s.abortWalk c).time = s.time
    ∧ (s.abortWalk c).freeCount = s.freeCount
    ∧ (s.abortWalk c).pending = s.pending := by
  simp only [State.abortWalk]
  repeat' split
  all_goals simp

@[simp] theorem State.mergeWrite_frame (s : State) (c : Chan) (a : ChanAddr) (d : WriteData) (tr : Translation) :
    (s.mergeWrite c a d tr).resetHeld = s.resetHeld
    ∧ (s.mergeWrite c a d tr).windowBase = s.windowBase
    ∧ (s.mergeWrite c a d tr).bridge = s.bridge
    ∧ (s.mergeWrite c a d tr).tc = s.tc
    ∧ (s.mergeWrite c a d tr).walk = s.walk
    ∧ (s.mergeWrite c a d tr).shadow = s.shadow
    ∧ (s.mergeWrite c a d tr).bus = s.bus
    ∧ (s.mergeWrite c a d tr).log = s.log
    ∧ (s.mergeWrite c a d tr).sticky = s.sticky
    ∧ (s.mergeWrite c a d tr).ints = s.ints
    ∧ (s.mergeWrite c a d tr).cmd = s.cmd
    ∧ (s.mergeWrite c a d tr).time = s.time
    ∧ (s.mergeWrite c a d tr).freeCount = s.freeCount
    ∧ (s.mergeWrite c a d tr).pending = s.pending := by
  simp only [State.mergeWrite]
  repeat' split
  all_goals simp

@[simp] theorem State.placeWrite_frame (s : State) (c : Chan) (a : ChanAddr) (d : WriteData) (tr : Translation) :
    (s.placeWrite c a d tr).resetHeld = s.resetHeld
    ∧ (s.placeWrite c a d tr).windowBase = s.windowBase
    ∧ (s.placeWrite c a d tr).bridge = s.bridge
    ∧ (s.placeWrite c a d tr).tc = s.tc
    ∧ (s.placeWrite c a d tr).walk = s.walk
    ∧ (s.placeWrite c a d tr).shadow = s.shadow
    ∧ (s.placeWrite c a d tr).bus = s.bus
    ∧ (s.placeWrite c a d tr).log = s.log
    ∧ (s.placeWrite c a d tr).sticky = s.sticky
    ∧ (s.placeWrite c a d tr).ints = s.ints
    ∧ (s.placeWrite c a d tr).cmd = s.cmd
    ∧ (s.placeWrite c a d tr).time = s.time
    ∧ (s.placeWrite c a d tr).freeCount = s.freeCount
    ∧ (s.placeWrite c a d tr).pending = s.pending := by
  simp only [State.placeWrite]
  repeat' split
  all_goals simp

@[simp] theorem State.serveRead_frame (s : State) (c : Chan) (z : Size) (tr : Translation) :
    (s.serveRead c z tr).resetHeld = s.resetHeld
    ∧ (s.serveRead c z tr).windowBase = s.windowBase
    ∧ (s.serveRead c z tr).bridge = s.bridge
    ∧ (s.serveRead c z tr).tc = s.tc
    ∧ (s.serveRead c z tr).walk = s.walk
    ∧ (s.serveRead c z tr).shadow = s.shadow
    ∧ (s.serveRead c z tr).inv = s.inv
    ∧ (s.serveRead c z tr).bus = s.bus
    ∧ (s.serveRead c z tr).log = s.log
    ∧ (s.serveRead c z tr).sticky = s.sticky
    ∧ (s.serveRead c z tr).ints = s.ints
    ∧ (s.serveRead c z tr).cmd = s.cmd
    ∧ (s.serveRead c z tr).time = s.time
    ∧ (s.serveRead c z tr).freeCount = s.freeCount
    ∧ (s.serveRead c z tr).pending = s.pending := by
  simp only [State.serveRead]
  repeat' split
  all_goals simp

@[simp] theorem State.placeRead_frame (s : State) (c : Chan) (z : Size) (tr : Translation) :
    (s.placeRead c z tr).resetHeld = s.resetHeld
    ∧ (s.placeRead c z tr).windowBase = s.windowBase
    ∧ (s.placeRead c z tr).bridge = s.bridge
    ∧ (s.placeRead c z tr).tc = s.tc
    ∧ (s.placeRead c z tr).walk = s.walk
    ∧ (s.placeRead c z tr).shadow = s.shadow
    ∧ (s.placeRead c z tr).bus = s.bus
    ∧ (s.placeRead c z tr).log = s.log
    ∧ (s.placeRead c z tr).sticky = s.sticky
    ∧ (s.placeRead c z tr).ints = s.ints
    ∧ (s.placeRead c z tr).cmd = s.cmd
    ∧ (s.placeRead c z tr).time = s.time
    ∧ (s.placeRead c z tr).freeCount = s.freeCount
    ∧ (s.placeRead c z tr).pending = s.pending := by
  simp only [State.placeRead]
  repeat' split
  all_goals simp

@[simp] theorem State.checkRights_frame (s : State) (c : Chan) (x : Xlat) :
    (s.checkRights c x).resetHeld = s.resetHeld
    ∧ (s.checkRights c x).windowBase = s.windowBase
    ∧ (s.checkRights c x).bridge = s.bridge
    ∧ (s.checkRights c x).tc = s.tc
    ∧ (s.checkRights c x).walk = s.walk
    ∧ (s.checkRights c x).shadow = s.shadow
    ∧ (s.checkRights c x).bus = s.bus
    ∧ (s.checkRights c x).sticky = s.sticky
    ∧ (s.checkRights c x).cmd = s.cmd
    ∧ (s.checkRights c x).time = s.time
    ∧ (s.checkRights c x).freeCount = s.freeCount
    ∧ (s.checkRights c x).pending = s.pending := by
  simp only [State.checkRights]
  repeat' split
  all_goals simp

@[simp] theorem State.failWalk_frame (s : State) (c : Chan) (x : Cause) :
    (s.failWalk c x).resetHeld = s.resetHeld
    ∧ (s.failWalk c x).windowBase = s.windowBase
    ∧ (s.failWalk c x).bridge = s.bridge
    ∧ (s.failWalk c x).tc = s.tc
    ∧ (s.failWalk c x).walk = s.walk
    ∧ (s.failWalk c x).shadow = s.shadow
    ∧ (s.failWalk c x).bus = s.bus
    ∧ (s.failWalk c x).sticky = s.sticky
    ∧ (s.failWalk c x).cmd = s.cmd
    ∧ (s.failWalk c x).time = s.time
    ∧ (s.failWalk c x).freeCount = s.freeCount
    ∧ (s.failWalk c x).pending = s.pending := by
  simp only [State.failWalk]
  repeat' split
  all_goals simp

@[simp] theorem State.walkReturn_frame (s : State) (i : Fin 2) (r : WalkResult) :
    (s.walkReturn i r).resetHeld = s.resetHeld
    ∧ (s.walkReturn i r).windowBase = s.windowBase
    ∧ (s.walkReturn i r).bridge = s.bridge
    ∧ (s.walkReturn i r).shadow = s.shadow
    ∧ (s.walkReturn i r).bus = s.bus
    ∧ (s.walkReturn i r).sticky = s.sticky
    ∧ (s.walkReturn i r).cmd = s.cmd
    ∧ (s.walkReturn i r).time = s.time
    ∧ (s.walkReturn i r).freeCount = s.freeCount
    ∧ (s.walkReturn i r).pending = s.pending := by
  simp only [State.walkReturn]
  repeat' split
  all_goals simp

@[simp] theorem State.answerRead_frame (s : State) (c : Chan) (d : LineData) :
    (s.answerRead c d).resetHeld = s.resetHeld
    ∧ (s.answerRead c d).windowBase = s.windowBase
    ∧ (s.answerRead c d).bridge = s.bridge
    ∧ (s.answerRead c d).tc = s.tc
    ∧ (s.answerRead c d).walk = s.walk
    ∧ (s.answerRead c d).shadow = s.shadow
    ∧ (s.answerRead c d).inv = s.inv
    ∧ (s.answerRead c d).bus = s.bus
    ∧ (s.answerRead c d).log = s.log
    ∧ (s.answerRead c d).sticky = s.sticky
    ∧ (s.answerRead c d).ints = s.ints
    ∧ (s.answerRead c d).cmd = s.cmd
    ∧ (s.answerRead c d).time = s.time
    ∧ (s.answerRead c d).freeCount = s.freeCount
    ∧ (s.answerRead c d).pending = s.pending := by
  simp only [State.answerRead]
  repeat' split
  all_goals simp

@[simp] theorem State.lineReadReturn_frame (s : State) (c : Chan) (r : LineResult) :
    (s.lineReadReturn c r).resetHeld = s.resetHeld
    ∧ (s.lineReadReturn c r).windowBase = s.windowBase
    ∧ (s.lineReadReturn c r).bridge = s.bridge
    ∧ (s.lineReadReturn c r).walk = s.walk
    ∧ (s.lineReadReturn c r).shadow = s.shadow
    ∧ (s.lineReadReturn c r).bus = s.bus
    ∧ (s.lineReadReturn c r).sticky = s.sticky
    ∧ (s.lineReadReturn c r).cmd = s.cmd
    ∧ (s.lineReadReturn c r).time = s.time
    ∧ (s.lineReadReturn c r).freeCount = s.freeCount
    ∧ (s.lineReadReturn c r).pending = s.pending := by
  simp only [State.lineReadReturn]
  repeat' split
  all_goals simp

@[simp] theorem State.writeBusError_frame (s : State) (c : Chan) :
    (s.writeBusError c).resetHeld = s.resetHeld
    ∧ (s.writeBusError c).windowBase = s.windowBase
    ∧ (s.writeBusError c).bridge = s.bridge
    ∧ (s.writeBusError c).tc = s.tc
    ∧ (s.writeBusError c).walk = s.walk
    ∧ (s.writeBusError c).shadow = s.shadow
    ∧ (s.writeBusError c).bus = s.bus
    ∧ (s.writeBusError c).sticky = s.sticky
    ∧ (s.writeBusError c).cmd = s.cmd
    ∧ (s.writeBusError c).time = s.time
    ∧ (s.writeBusError c).freeCount = s.freeCount
    ∧ (s.writeBusError c).pending = s.pending := by
  simp [State.writeBusError]

@[simp] theorem State.resolveReservation_frame (s : State) (c : Chan) :
    (s.resolveReservation c).resetHeld = s.resetHeld
    ∧ (s.resolveReservation c).windowBase = s.windowBase
    ∧ (s.resolveReservation c).bridge = s.bridge
    ∧ (s.resolveReservation c).tc = s.tc
    ∧ (s.resolveReservation c).walk = s.walk
    ∧ (s.resolveReservation c).bus = s.bus
    ∧ (s.resolveReservation c).log = s.log
    ∧ (s.resolveReservation c).sticky = s.sticky
    ∧ (s.resolveReservation c).ints = s.ints
    ∧ (s.resolveReservation c).cmd = s.cmd
    ∧ (s.resolveReservation c).time = s.time
    ∧ (s.resolveReservation c).freeCount = s.freeCount
    ∧ (s.resolveReservation c).pending = s.pending := by
  simp only [State.resolveReservation]
  repeat' split
  all_goals simp

@[simp] theorem State.restartWaiting_frame (s : State) (c : Chan) :
    (s.restartWaiting c).resetHeld = s.resetHeld
    ∧ (s.restartWaiting c).windowBase = s.windowBase
    ∧ (s.restartWaiting c).bridge = s.bridge
    ∧ (s.restartWaiting c).tc = s.tc
    ∧ (s.restartWaiting c).walk = s.walk
    ∧ (s.restartWaiting c).shadow = s.shadow
    ∧ (s.restartWaiting c).bus = s.bus
    ∧ (s.restartWaiting c).log = s.log
    ∧ (s.restartWaiting c).sticky = s.sticky
    ∧ (s.restartWaiting c).ints = s.ints
    ∧ (s.restartWaiting c).cmd = s.cmd
    ∧ (s.restartWaiting c).time = s.time
    ∧ (s.restartWaiting c).freeCount = s.freeCount
    ∧ (s.restartWaiting c).pending = s.pending := by
  simp only [State.restartWaiting]
  repeat' split
  all_goals simp

@[simp] theorem State.lineWriteAck_frame (s : State) (c : Chan) (a : Ack) :
    (s.lineWriteAck c a).resetHeld = s.resetHeld
    ∧ (s.lineWriteAck c a).windowBase = s.windowBase
    ∧ (s.lineWriteAck c a).bridge = s.bridge
    ∧ (s.lineWriteAck c a).walk = s.walk
    ∧ (s.lineWriteAck c a).bus = s.bus
    ∧ (s.lineWriteAck c a).sticky = s.sticky
    ∧ (s.lineWriteAck c a).cmd = s.cmd
    ∧ (s.lineWriteAck c a).time = s.time
    ∧ (s.lineWriteAck c a).freeCount = s.freeCount
    ∧ (s.lineWriteAck c a).pending = s.pending := by
  simp only [State.lineWriteAck]
  repeat' split
  all_goals simp

@[simp] theorem State.foldl_settle_frame (cs : List Chan) (s : State) :
    (cs.foldl State.settle s).resetHeld = s.resetHeld
    ∧ (cs.foldl State.settle s).windowBase = s.windowBase
    ∧ (cs.foldl State.settle s).bridge = s.bridge
    ∧ (cs.foldl State.settle s).walk = s.walk
    ∧ (cs.foldl State.settle s).shadow = s.shadow
    ∧ (cs.foldl State.settle s).inv = s.inv
    ∧ (cs.foldl State.settle s).bus = s.bus
    ∧ (cs.foldl State.settle s).log = s.log
    ∧ (cs.foldl State.settle s).sticky = s.sticky
    ∧ (cs.foldl State.settle s).cmd = s.cmd
    ∧ (cs.foldl State.settle s).time = s.time
    ∧ (cs.foldl State.settle s).freeCount = s.freeCount
    ∧ (cs.foldl State.settle s).pending = s.pending := by
  induction cs generalizing s with
  | nil => simp
  | cons c cs ih => simp [ih]

@[simp] theorem State.killAck_frame (s : State) (a : Ack) :
    (s.killAck a).resetHeld = s.resetHeld
    ∧ (s.killAck a).windowBase = s.windowBase
    ∧ (s.killAck a).bridge = s.bridge
    ∧ (s.killAck a).walk = s.walk
    ∧ (s.killAck a).shadow = s.shadow
    ∧ (s.killAck a).bus = s.bus
    ∧ (s.killAck a).log = s.log
    ∧ (s.killAck a).cmd = s.cmd
    ∧ (s.killAck a).time = s.time
    ∧ (s.killAck a).freeCount = s.freeCount
    ∧ (s.killAck a).pending = s.pending := by
  simp only [State.killAck]
  repeat' split
  all_goals simp

@[simp] theorem State.observe_frame (s : State) (w : BusWrite) :
    (s.observe w).resetHeld = s.resetHeld
    ∧ (s.observe w).windowBase = s.windowBase
    ∧ (s.observe w).bridge = s.bridge
    ∧ (s.observe w).shadow = s.shadow
    ∧ (s.observe w).inv = s.inv
    ∧ (s.observe w).bus = s.bus
    ∧ (s.observe w).log = s.log
    ∧ (s.observe w).sticky = s.sticky
    ∧ (s.observe w).ints = s.ints
    ∧ (s.observe w).cmd = s.cmd
    ∧ (s.observe w).time = s.time
    ∧ (s.observe w).freeCount = s.freeCount
    ∧ (s.observe w).pending = s.pending := by
  simp only [State.observe]
  all_goals simp

@[simp] theorem State.issue_frame (s : State) (r : Requester) :
    (s.issue r).resetHeld = s.resetHeld
    ∧ (s.issue r).windowBase = s.windowBase
    ∧ (s.issue r).bridge = s.bridge
    ∧ (s.issue r).shadow = s.shadow
    ∧ (s.issue r).log = s.log
    ∧ (s.issue r).sticky = s.sticky
    ∧ (s.issue r).ints = s.ints
    ∧ (s.issue r).cmd = s.cmd
    ∧ (s.issue r).time = s.time
    ∧ (s.issue r).freeCount = s.freeCount
    ∧ (s.issue r).pending = s.pending := by
  simp only [State.issue]
  repeat' split
  all_goals simp

@[simp] theorem State.busGrant_frame (s : State) :
    (s.busGrant).resetHeld = s.resetHeld
    ∧ (s.busGrant).windowBase = s.windowBase
    ∧ (s.busGrant).bridge = s.bridge
    ∧ (s.busGrant).shadow = s.shadow
    ∧ (s.busGrant).log = s.log
    ∧ (s.busGrant).sticky = s.sticky
    ∧ (s.busGrant).ints = s.ints
    ∧ (s.busGrant).cmd = s.cmd
    ∧ (s.busGrant).time = s.time
    ∧ (s.busGrant).freeCount = s.freeCount
    ∧ (s.busGrant).pending = s.pending := by
  simp only [State.busGrant]
  repeat' split
  all_goals simp

@[simp] theorem State.endResetting_frame (s : State) :
    (s.endResetting).resetHeld = s.resetHeld
    ∧ (s.endResetting).windowBase = s.windowBase
    ∧ (s.endResetting).tc = s.tc
    ∧ (s.endResetting).walk = s.walk
    ∧ (s.endResetting).shadow = s.shadow
    ∧ (s.endResetting).inv = s.inv
    ∧ (s.endResetting).bus = s.bus
    ∧ (s.endResetting).log = s.log
    ∧ (s.endResetting).sticky = s.sticky
    ∧ (s.endResetting).ints = s.ints
    ∧ (s.endResetting).cmd = s.cmd
    ∧ (s.endResetting).time = s.time
    ∧ (s.endResetting).freeCount = s.freeCount
    ∧ (s.endResetting).pending = s.pending := by
  simp only [State.endResetting]
  repeat' split
  all_goals simp

@[simp] theorem State.complete_frame (s : State) (k : Completion) :
    (s.complete k).resetHeld = s.resetHeld
    ∧ (s.complete k).windowBase = s.windowBase
    ∧ (s.complete k).cmd = s.cmd
    ∧ (s.complete k).time = s.time
    ∧ (s.complete k).freeCount = s.freeCount
    ∧ (s.complete k).pending = s.pending := by
  simp only [State.complete]
  repeat' split
  all_goals simp

@[simp] theorem State.acceptAccess_frame (s : State) (c : Chan) (r : Request) (k : Access) (a : ChanAddr) (z : Size) :
    (s.acceptAccess c r k a z).resetHeld = s.resetHeld
    ∧ (s.acceptAccess c r k a z).windowBase = s.windowBase
    ∧ (s.acceptAccess c r k a z).bridge = s.bridge
    ∧ (s.acceptAccess c r k a z).tc = s.tc
    ∧ (s.acceptAccess c r k a z).walk = s.walk
    ∧ (s.acceptAccess c r k a z).shadow = s.shadow
    ∧ (s.acceptAccess c r k a z).bus = s.bus
    ∧ (s.acceptAccess c r k a z).sticky = s.sticky
    ∧ (s.acceptAccess c r k a z).cmd = s.cmd
    ∧ (s.acceptAccess c r k a z).time = s.time
    ∧ (s.acceptAccess c r k a z).freeCount = s.freeCount
    ∧ (s.acceptAccess c r k a z).pending = s.pending := by
  simp only [State.acceptAccess]
  repeat' split
  all_goals simp

@[simp] theorem State.acceptSync_frame (s : State) (c : Chan) :
    (s.acceptSync c).resetHeld = s.resetHeld
    ∧ (s.acceptSync c).windowBase = s.windowBase
    ∧ (s.acceptSync c).bridge = s.bridge
    ∧ (s.acceptSync c).walk = s.walk
    ∧ (s.acceptSync c).shadow = s.shadow
    ∧ (s.acceptSync c).bus = s.bus
    ∧ (s.acceptSync c).log = s.log
    ∧ (s.acceptSync c).sticky = s.sticky
    ∧ (s.acceptSync c).cmd = s.cmd
    ∧ (s.acceptSync c).time = s.time
    ∧ (s.acceptSync c).freeCount = s.freeCount
    ∧ (s.acceptSync c).pending = s.pending := by
  simp [State.acceptSync]

@[simp] theorem State.takeRequest_frame (s : State) (c : Chan) (r : Request) :
    (s.takeRequest c r).resetHeld = s.resetHeld
    ∧ (s.takeRequest c r).windowBase = s.windowBase
    ∧ (s.takeRequest c r).bridge = s.bridge
    ∧ (s.takeRequest c r).walk = s.walk
    ∧ (s.takeRequest c r).shadow = s.shadow
    ∧ (s.takeRequest c r).bus = s.bus
    ∧ (s.takeRequest c r).sticky = s.sticky
    ∧ (s.takeRequest c r).cmd = s.cmd
    ∧ (s.takeRequest c r).time = s.time
    ∧ (s.takeRequest c r).freeCount = s.freeCount
    ∧ (s.takeRequest c r).pending = s.pending := by
  simp only [State.takeRequest]
  repeat' split
  all_goals simp

@[simp] theorem State.portTake_frame (s : State) (c : Chan) :
    (s.portTake c).resetHeld = s.resetHeld
    ∧ (s.portTake c).windowBase = s.windowBase
    ∧ (s.portTake c).bridge = s.bridge
    ∧ (s.portTake c).walk = s.walk
    ∧ (s.portTake c).shadow = s.shadow
    ∧ (s.portTake c).bus = s.bus
    ∧ (s.portTake c).sticky = s.sticky
    ∧ (s.portTake c).cmd = s.cmd
    ∧ (s.portTake c).time = s.time
    ∧ (s.portTake c).freeCount = s.freeCount
    ∧ (s.portTake c).pending = s.pending := by
  simp only [State.portTake]
  repeat' split
  all_goals simp

@[simp] theorem State.present_frame (s : State) (c : Chan) (r : Request) :
    (s.present c r).resetHeld = s.resetHeld
    ∧ (s.present c r).windowBase = s.windowBase
    ∧ (s.present c r).bridge = s.bridge
    ∧ (s.present c r).walk = s.walk
    ∧ (s.present c r).shadow = s.shadow
    ∧ (s.present c r).bus = s.bus
    ∧ (s.present c r).sticky = s.sticky
    ∧ (s.present c r).cmd = s.cmd
    ∧ (s.present c r).time = s.time
    ∧ (s.present c r).freeCount = s.freeCount
    ∧ (s.present c r).pending = s.pending := by
  simp only [State.present, State.unlessReset]
  repeat' split
  all_goals simp

@[simp] theorem State.foldl_flushBuffer_frame (cs : List Chan) (s : State) :
    (cs.foldl State.flushBuffer s).resetHeld = s.resetHeld
    ∧ (cs.foldl State.flushBuffer s).windowBase = s.windowBase
    ∧ (cs.foldl State.flushBuffer s).bridge = s.bridge
    ∧ (cs.foldl State.flushBuffer s).tc = s.tc
    ∧ (cs.foldl State.flushBuffer s).walk = s.walk
    ∧ (cs.foldl State.flushBuffer s).shadow = s.shadow
    ∧ (cs.foldl State.flushBuffer s).bus = s.bus
    ∧ (cs.foldl State.flushBuffer s).log = s.log
    ∧ (cs.foldl State.flushBuffer s).sticky = s.sticky
    ∧ (cs.foldl State.flushBuffer s).ints = s.ints
    ∧ (cs.foldl State.flushBuffer s).cmd = s.cmd
    ∧ (cs.foldl State.flushBuffer s).time = s.time
    ∧ (cs.foldl State.flushBuffer s).freeCount = s.freeCount
    ∧ (cs.foldl State.flushBuffer s).pending = s.pending := by
  induction cs generalizing s with
  | nil => simp
  | cons c cs ih => simp [ih]

@[simp] theorem State.flushExpired_frame (s : State) :
    (s.flushExpired).resetHeld = s.resetHeld
    ∧ (s.flushExpired).windowBase = s.windowBase
    ∧ (s.flushExpired).bridge = s.bridge
    ∧ (s.flushExpired).tc = s.tc
    ∧ (s.flushExpired).walk = s.walk
    ∧ (s.flushExpired).shadow = s.shadow
    ∧ (s.flushExpired).bus = s.bus
    ∧ (s.flushExpired).log = s.log
    ∧ (s.flushExpired).sticky = s.sticky
    ∧ (s.flushExpired).ints = s.ints
    ∧ (s.flushExpired).cmd = s.cmd
    ∧ (s.flushExpired).time = s.time
    ∧ (s.flushExpired).pending = s.pending := by
  simp only [State.flushExpired]
  repeat' split
  all_goals simp

@[simp] theorem State.tick_frame (s : State) :
    (s.tick).resetHeld = s.resetHeld
    ∧ (s.tick).windowBase = s.windowBase
    ∧ (s.tick).bridge = s.bridge
    ∧ (s.tick).tc = s.tc
    ∧ (s.tick).walk = s.walk
    ∧ (s.tick).shadow = s.shadow
    ∧ (s.tick).bus = s.bus
    ∧ (s.tick).log = s.log
    ∧ (s.tick).sticky = s.sticky
    ∧ (s.tick).ints = s.ints
    ∧ (s.tick).cmd = s.cmd
    ∧ (s.tick).pending = s.pending := by
  simp only [State.tick]
  repeat' split
  all_goals simp

@[simp] theorem State.clockPeriod_frame (s : State) :
    (s.clockPeriod).resetHeld = s.resetHeld
    ∧ (s.clockPeriod).windowBase = s.windowBase
    ∧ (s.clockPeriod).bridge = s.bridge
    ∧ (s.clockPeriod).tc = s.tc
    ∧ (s.clockPeriod).walk = s.walk
    ∧ (s.clockPeriod).shadow = s.shadow
    ∧ (s.clockPeriod).bus = s.bus
    ∧ (s.clockPeriod).log = s.log
    ∧ (s.clockPeriod).sticky = s.sticky
    ∧ (s.clockPeriod).ints = s.ints
    ∧ (s.clockPeriod).cmd = s.cmd
    ∧ (s.clockPeriod).pending = s.pending := by
  simp only [State.clockPeriod]
  repeat' split
  all_goals simp

@[simp] theorem State.expireTimer_frame (s : State) (c : Chan) :
    (s.expireTimer c).resetHeld = s.resetHeld
    ∧ (s.expireTimer c).windowBase = s.windowBase
    ∧ (s.expireTimer c).bridge = s.bridge
    ∧ (s.expireTimer c).tc = s.tc
    ∧ (s.expireTimer c).walk = s.walk
    ∧ (s.expireTimer c).shadow = s.shadow
    ∧ (s.expireTimer c).bus = s.bus
    ∧ (s.expireTimer c).log = s.log
    ∧ (s.expireTimer c).sticky = s.sticky
    ∧ (s.expireTimer c).ints = s.ints
    ∧ (s.expireTimer c).cmd = s.cmd
    ∧ (s.expireTimer c).time = s.time
    ∧ (s.expireTimer c).freeCount = s.freeCount
    ∧ (s.expireTimer c).pending = s.pending := by
  simp only [State.expireTimer]
  repeat' split
  all_goals simp

@[simp] theorem State.idle_frame (s : State) :
    (s.idle).resetHeld = s.resetHeld
    ∧ (s.idle).windowBase = s.windowBase
    ∧ (s.idle).bridge = s.bridge
    ∧ (s.idle).walk = s.walk
    ∧ (s.idle).shadow = s.shadow
    ∧ (s.idle).bus = s.bus
    ∧ (s.idle).sticky = s.sticky
    ∧ (s.idle).cmd = s.cmd
    ∧ (s.idle).pending = s.pending := by
  simp only [State.idle, State.unlessReset]
  repeat' split
  all_goals simp

@[simp] theorem State.stopTransaction_frame (s : State) (c : Chan) :
    (s.stopTransaction c).resetHeld = s.resetHeld
    ∧ (s.stopTransaction c).windowBase = s.windowBase
    ∧ (s.stopTransaction c).bridge = s.bridge
    ∧ (s.stopTransaction c).tc = s.tc
    ∧ (s.stopTransaction c).shadow = s.shadow
    ∧ (s.stopTransaction c).inv = s.inv
    ∧ (s.stopTransaction c).bus = s.bus
    ∧ (s.stopTransaction c).log = s.log
    ∧ (s.stopTransaction c).sticky = s.sticky
    ∧ (s.stopTransaction c).ints = s.ints
    ∧ (s.stopTransaction c).cmd = s.cmd
    ∧ (s.stopTransaction c).time = s.time
    ∧ (s.stopTransaction c).freeCount = s.freeCount
    ∧ (s.stopTransaction c).pending = s.pending := by
  simp only [State.stopTransaction]
  repeat' split
  all_goals simp

@[simp] theorem State.discardBuffer_frame (s : State) (c : Chan) :
    (s.discardBuffer c).resetHeld = s.resetHeld
    ∧ (s.discardBuffer c).windowBase = s.windowBase
    ∧ (s.discardBuffer c).bridge = s.bridge
    ∧ (s.discardBuffer c).tc = s.tc
    ∧ (s.discardBuffer c).walk = s.walk
    ∧ (s.discardBuffer c).shadow = s.shadow
    ∧ (s.discardBuffer c).bus = s.bus
    ∧ (s.discardBuffer c).log = s.log
    ∧ (s.discardBuffer c).sticky = s.sticky
    ∧ (s.discardBuffer c).ints = s.ints
    ∧ (s.discardBuffer c).cmd = s.cmd
    ∧ (s.discardBuffer c).time = s.time
    ∧ (s.discardBuffer c).freeCount = s.freeCount
    ∧ (s.discardBuffer c).pending = s.pending := by
  simp only [State.discardBuffer]
  repeat' split
  all_goals simp

@[simp] theorem State.enableChannel_frame (s : State) (c : Chan) :
    ((s.enableChannel c).1).resetHeld = s.resetHeld
    ∧ ((s.enableChannel c).1).windowBase = s.windowBase
    ∧ ((s.enableChannel c).1).bridge = s.bridge
    ∧ ((s.enableChannel c).1).tc = s.tc
    ∧ ((s.enableChannel c).1).walk = s.walk
    ∧ ((s.enableChannel c).1).shadow = s.shadow
    ∧ ((s.enableChannel c).1).inv = s.inv
    ∧ ((s.enableChannel c).1).bus = s.bus
    ∧ ((s.enableChannel c).1).log = s.log
    ∧ ((s.enableChannel c).1).sticky = s.sticky
    ∧ ((s.enableChannel c).1).ints = s.ints
    ∧ ((s.enableChannel c).1).cmd = s.cmd
    ∧ ((s.enableChannel c).1).time = s.time
    ∧ ((s.enableChannel c).1).freeCount = s.freeCount
    ∧ ((s.enableChannel c).1).pending = s.pending := by
  simp only [State.enableChannel]
  repeat' split
  all_goals simp

@[simp] theorem State.resumeChannel_frame (s : State) (c : Chan) :
    ((s.resumeChannel c).1).resetHeld = s.resetHeld
    ∧ ((s.resumeChannel c).1).windowBase = s.windowBase
    ∧ ((s.resumeChannel c).1).bridge = s.bridge
    ∧ ((s.resumeChannel c).1).tc = s.tc
    ∧ ((s.resumeChannel c).1).walk = s.walk
    ∧ ((s.resumeChannel c).1).shadow = s.shadow
    ∧ ((s.resumeChannel c).1).inv = s.inv
    ∧ ((s.resumeChannel c).1).bus = s.bus
    ∧ ((s.resumeChannel c).1).log = s.log
    ∧ ((s.resumeChannel c).1).sticky = s.sticky
    ∧ ((s.resumeChannel c).1).ints = s.ints
    ∧ ((s.resumeChannel c).1).cmd = s.cmd
    ∧ ((s.resumeChannel c).1).time = s.time
    ∧ ((s.resumeChannel c).1).freeCount = s.freeCount
    ∧ ((s.resumeChannel c).1).pending = s.pending := by
  simp only [State.resumeChannel]
  repeat' split
  all_goals simp

@[simp] theorem State.disableChannel_frame (s : State) (c : Chan) :
    ((s.disableChannel c).1).resetHeld = s.resetHeld
    ∧ ((s.disableChannel c).1).windowBase = s.windowBase
    ∧ ((s.disableChannel c).1).bridge = s.bridge
    ∧ ((s.disableChannel c).1).walk = s.walk
    ∧ ((s.disableChannel c).1).shadow = s.shadow
    ∧ ((s.disableChannel c).1).bus = s.bus
    ∧ ((s.disableChannel c).1).log = s.log
    ∧ ((s.disableChannel c).1).sticky = s.sticky
    ∧ ((s.disableChannel c).1).cmd = s.cmd
    ∧ ((s.disableChannel c).1).time = s.time
    ∧ ((s.disableChannel c).1).freeCount = s.freeCount
    ∧ ((s.disableChannel c).1).pending = s.pending := by
  simp only [State.disableChannel]
  repeat' split
  all_goals simp

@[simp] theorem State.abortChannel_frame (s : State) (c : Chan) :
    ((s.abortChannel c).1).resetHeld = s.resetHeld
    ∧ ((s.abortChannel c).1).windowBase = s.windowBase
    ∧ ((s.abortChannel c).1).bridge = s.bridge
    ∧ ((s.abortChannel c).1).shadow = s.shadow
    ∧ ((s.abortChannel c).1).bus = s.bus
    ∧ ((s.abortChannel c).1).log = s.log
    ∧ ((s.abortChannel c).1).sticky = s.sticky
    ∧ ((s.abortChannel c).1).cmd = s.cmd
    ∧ ((s.abortChannel c).1).time = s.time
    ∧ ((s.abortChannel c).1).freeCount = s.freeCount
    ∧ ((s.abortChannel c).1).pending = s.pending := by
  simp only [State.abortChannel]
  repeat' split
  all_goals simp

@[simp] theorem State.clearTags_frame (s : State) :
    ((s.clearTags).1).resetHeld = s.resetHeld
    ∧ ((s.clearTags).1).windowBase = s.windowBase
    ∧ ((s.clearTags).1).bridge = s.bridge
    ∧ ((s.clearTags).1).tc = s.tc
    ∧ ((s.clearTags).1).walk = s.walk
    ∧ ((s.clearTags).1).inv = s.inv
    ∧ ((s.clearTags).1).bus = s.bus
    ∧ ((s.clearTags).1).log = s.log
    ∧ ((s.clearTags).1).sticky = s.sticky
    ∧ ((s.clearTags).1).ints = s.ints
    ∧ ((s.clearTags).1).cmd = s.cmd
    ∧ ((s.clearTags).1).time = s.time
    ∧ ((s.clearTags).1).freeCount = s.freeCount
    ∧ ((s.clearTags).1).pending = s.pending := by
  simp only [State.clearTags]
  repeat' split
  all_goals simp

@[simp] theorem State.dispatchCommand_frame (s : State) (n : CommandName) (ch : BitVec 4) (p : BitVec 14) :
    (s.dispatchCommand n ch p).resetHeld = s.resetHeld
    ∧ (s.dispatchCommand n ch p).windowBase = s.windowBase
    ∧ (s.dispatchCommand n ch p).bridge = s.bridge
    ∧ (s.dispatchCommand n ch p).bus = s.bus
    ∧ (s.dispatchCommand n ch p).log = s.log
    ∧ (s.dispatchCommand n ch p).sticky = s.sticky
    ∧ (s.dispatchCommand n ch p).time = s.time
    ∧ (s.dispatchCommand n ch p).freeCount = s.freeCount
    ∧ (s.dispatchCommand n ch p).pending = s.pending := by
  cases n <;> simp [State.dispatchCommand]

@[simp] theorem State.command_frame (s : State) (n : CommandName) (ch : BitVec 4) (p : BitVec 14) :
    (s.command n ch p).resetHeld = s.resetHeld
    ∧ (s.command n ch p).windowBase = s.windowBase
    ∧ (s.command n ch p).bridge = s.bridge
    ∧ (s.command n ch p).bus = s.bus
    ∧ (s.command n ch p).log = s.log
    ∧ (s.command n ch p).time = s.time
    ∧ (s.command n ch p).freeCount = s.freeCount
    ∧ (s.command n ch p).pending = s.pending := by
  simp only [State.command]
  repeat' split
  all_goals simp

@[simp] theorem State.missLookup_frame (s : State) (c : Chan) (p : Page) :
    (s.missLookup c p).resetHeld = s.resetHeld
    ∧ (s.missLookup c p).windowBase = s.windowBase
    ∧ (s.missLookup c p).bridge = s.bridge
    ∧ (s.missLookup c p).tc = s.tc
    ∧ (s.missLookup c p).shadow = s.shadow
    ∧ (s.missLookup c p).inv = s.inv
    ∧ (s.missLookup c p).bus = s.bus
    ∧ (s.missLookup c p).log = s.log
    ∧ (s.missLookup c p).sticky = s.sticky
    ∧ (s.missLookup c p).ints = s.ints
    ∧ (s.missLookup c p).cmd = s.cmd
    ∧ (s.missLookup c p).time = s.time
    ∧ (s.missLookup c p).freeCount = s.freeCount
    ∧ (s.missLookup c p).pending = s.pending := by
  simp [State.missLookup]

@[simp] theorem State.lookup_frame (s : State) (c : Chan) :
    (s.lookup c).resetHeld = s.resetHeld
    ∧ (s.lookup c).windowBase = s.windowBase
    ∧ (s.lookup c).bridge = s.bridge
    ∧ (s.lookup c).shadow = s.shadow
    ∧ (s.lookup c).bus = s.bus
    ∧ (s.lookup c).sticky = s.sticky
    ∧ (s.lookup c).cmd = s.cmd
    ∧ (s.lookup c).time = s.time
    ∧ (s.lookup c).freeCount = s.freeCount
    ∧ (s.lookup c).pending = s.pending := by
  simp only [State.lookup]
  repeat' split
  all_goals simp

@[simp] theorem State.lookupService_frame (s : State) :
    (s.lookupService).resetHeld = s.resetHeld
    ∧ (s.lookupService).windowBase = s.windowBase
    ∧ (s.lookupService).bridge = s.bridge
    ∧ (s.lookupService).shadow = s.shadow
    ∧ (s.lookupService).bus = s.bus
    ∧ (s.lookupService).sticky = s.sticky
    ∧ (s.lookupService).cmd = s.cmd
    ∧ (s.lookupService).time = s.time
    ∧ (s.lookupService).freeCount = s.freeCount
    ∧ (s.lookupService).pending = s.pending := by
  simp only [State.lookupService]
  repeat' split
  all_goals simp

@[simp] theorem State.serveCommand_frame (s : State) :
    (s.serveCommand).resetHeld = s.resetHeld
    ∧ (s.serveCommand).windowBase = s.windowBase
    ∧ (s.serveCommand).bridge = s.bridge
    ∧ (s.serveCommand).shadow = s.shadow
    ∧ (s.serveCommand).inv = s.inv
    ∧ (s.serveCommand).bus = s.bus
    ∧ (s.serveCommand).log = s.log
    ∧ (s.serveCommand).sticky = s.sticky
    ∧ (s.serveCommand).time = s.time
    ∧ (s.serveCommand).freeCount = s.freeCount
    ∧ (s.serveCommand).pending = s.pending := by
  simp only [State.serveCommand]
  repeat' split
  all_goals simp

@[simp] theorem State.commandService_frame (s : State) :
    (s.commandService).resetHeld = s.resetHeld
    ∧ (s.commandService).windowBase = s.windowBase
    ∧ (s.commandService).bridge = s.bridge
    ∧ (s.commandService).shadow = s.shadow
    ∧ (s.commandService).inv = s.inv
    ∧ (s.commandService).bus = s.bus
    ∧ (s.commandService).log = s.log
    ∧ (s.commandService).sticky = s.sticky
    ∧ (s.commandService).time = s.time
    ∧ (s.commandService).freeCount = s.freeCount
    ∧ (s.commandService).pending = s.pending := by
  simp only [State.commandService]
  repeat' split
  all_goals simp

@[simp] theorem State.takeFill_frame (s : State) (l : Word) (w : Way) :
    (s.takeFill l w).resetHeld = s.resetHeld
    ∧ (s.takeFill l w).windowBase = s.windowBase
    ∧ (s.takeFill l w).bridge = s.bridge
    ∧ (s.takeFill l w).tc = s.tc
    ∧ (s.takeFill l w).walk = s.walk
    ∧ (s.takeFill l w).inv = s.inv
    ∧ (s.takeFill l w).bus = s.bus
    ∧ (s.takeFill l w).log = s.log
    ∧ (s.takeFill l w).cmd = s.cmd
    ∧ (s.takeFill l w).time = s.time
    ∧ (s.takeFill l w).freeCount = s.freeCount
    ∧ (s.takeFill l w).pending = s.pending := by
  simp only [State.takeFill]
  repeat' split
  all_goals simp

@[simp] theorem State.takeSweepStep_frame (s : State) :
    (s.takeSweepStep).resetHeld = s.resetHeld
    ∧ (s.takeSweepStep).windowBase = s.windowBase
    ∧ (s.takeSweepStep).bridge = s.bridge
    ∧ (s.takeSweepStep).tc = s.tc
    ∧ (s.takeSweepStep).walk = s.walk
    ∧ (s.takeSweepStep).inv = s.inv
    ∧ (s.takeSweepStep).bus = s.bus
    ∧ (s.takeSweepStep).log = s.log
    ∧ (s.takeSweepStep).sticky = s.sticky
    ∧ (s.takeSweepStep).cmd = s.cmd
    ∧ (s.takeSweepStep).time = s.time
    ∧ (s.takeSweepStep).freeCount = s.freeCount
    ∧ (s.takeSweepStep).pending = s.pending := by
  simp only [State.takeSweepStep]
  repeat' split
  all_goals simp

@[simp] theorem State.stopCommand_frame (s : State) :
    (s.stopCommand).resetHeld = s.resetHeld
    ∧ (s.stopCommand).windowBase = s.windowBase
    ∧ (s.stopCommand).bridge = s.bridge
    ∧ (s.stopCommand).tc = s.tc
    ∧ (s.stopCommand).walk = s.walk
    ∧ (s.stopCommand).shadow = s.shadow
    ∧ (s.stopCommand).inv = s.inv
    ∧ (s.stopCommand).bus = s.bus
    ∧ (s.stopCommand).log = s.log
    ∧ (s.stopCommand).sticky = s.sticky
    ∧ (s.stopCommand).time = s.time
    ∧ (s.stopCommand).freeCount = s.freeCount
    ∧ (s.stopCommand).pending = s.pending := by
  simp only [State.stopCommand]
  repeat' split
  all_goals simp

@[simp] theorem State.softReset_frame (s : State) :
    (s.softReset).resetHeld = s.resetHeld
    ∧ (s.softReset).windowBase = s.windowBase
    ∧ (s.softReset).shadow = s.shadow
    ∧ (s.softReset).sticky = s.sticky
    ∧ (s.softReset).time = s.time
    ∧ (s.softReset).freeCount = s.freeCount
    ∧ (s.softReset).pending = s.pending := by
  simp only [State.softReset]
  repeat' split
  all_goals simp

@[simp] theorem State.writeDescriptor_frame (s : State) (c : Chan) (r : DescReg) (v : Word) :
    (s.writeDescriptor c r v).resetHeld = s.resetHeld
    ∧ (s.writeDescriptor c r v).windowBase = s.windowBase
    ∧ (s.writeDescriptor c r v).bridge = s.bridge
    ∧ (s.writeDescriptor c r v).tc = s.tc
    ∧ (s.writeDescriptor c r v).walk = s.walk
    ∧ (s.writeDescriptor c r v).shadow = s.shadow
    ∧ (s.writeDescriptor c r v).inv = s.inv
    ∧ (s.writeDescriptor c r v).bus = s.bus
    ∧ (s.writeDescriptor c r v).log = s.log
    ∧ (s.writeDescriptor c r v).ints = s.ints
    ∧ (s.writeDescriptor c r v).cmd = s.cmd
    ∧ (s.writeDescriptor c r v).time = s.time
    ∧ (s.writeDescriptor c r v).freeCount = s.freeCount
    ∧ (s.writeDescriptor c r v).pending = s.pending := by
  simp only [State.writeDescriptor]
  repeat' split
  all_goals simp

@[simp] theorem State.writeShadowControl_frame (s : State) (m : BitVec 2) (k : BitVec 8) :
    (s.writeShadowControl m k).resetHeld = s.resetHeld
    ∧ (s.writeShadowControl m k).windowBase = s.windowBase
    ∧ (s.writeShadowControl m k).bridge = s.bridge
    ∧ (s.writeShadowControl m k).tc = s.tc
    ∧ (s.writeShadowControl m k).walk = s.walk
    ∧ (s.writeShadowControl m k).inv = s.inv
    ∧ (s.writeShadowControl m k).bus = s.bus
    ∧ (s.writeShadowControl m k).log = s.log
    ∧ (s.writeShadowControl m k).ints = s.ints
    ∧ (s.writeShadowControl m k).cmd = s.cmd
    ∧ (s.writeShadowControl m k).time = s.time
    ∧ (s.writeShadowControl m k).freeCount = s.freeCount
    ∧ (s.writeShadowControl m k).pending = s.pending := by
  simp only [State.writeShadowControl]
  repeat' split
  all_goals simp

@[simp] theorem State.writeCommand_frame (s : State) (v : Word) :
    (s.writeCommand v).resetHeld = s.resetHeld
    ∧ (s.writeCommand v).windowBase = s.windowBase
    ∧ (s.writeCommand v).bridge = s.bridge
    ∧ (s.writeCommand v).bus = s.bus
    ∧ (s.writeCommand v).log = s.log
    ∧ (s.writeCommand v).time = s.time
    ∧ (s.writeCommand v).freeCount = s.freeCount
    ∧ (s.writeCommand v).pending = s.pending := by
  simp only [State.writeCommand]
  repeat' split
  all_goals simp

end Sys2Proof.Machine
end

