-- ==== Sys2Proof/Laws/Channels.lean ====
section
/-!
SUPPORT. Reading a channel after each named update of the state, and the count of reservations after an update.
-/

namespace Sys2Proof.Machine

/-! ## Reading a channel after an update -/

theorem State.chan_of_chans {s t : State} (h : s.chans = t.chans) (c : Chan) : s.chan c = t.chan c := by
  simp [State.chan, h]

theorem State.chan_setChan (s : State) (c d : Chan) (x : Channel) :
    (s.setChan c x).chan d = if c = d then x else s.chan d := by
  simp only [State.chan, State.setChan, Fin.getElem_fin, Vector.getElem_set, Fin.ext_iff]

@[simp] theorem State.chan_setChan_self (s : State) (c : Chan) (x : Channel) : (s.setChan c x).chan c = x := by
  simp [State.chan_setChan]

theorem State.chan_setChan_ne (s : State) {c d : Chan} (h : c ≠ d) (x : Channel) :
    (s.setChan c x).chan d = s.chan d := by
  simp [State.chan_setChan, h]

theorem State.chan_modChan (s : State) (c d : Chan) (f : Channel → Channel) :
    (s.modChan c f).chan d = if c = d then f (s.chan c) else s.chan d := State.chan_setChan s c d _

@[simp] theorem State.chan_modChan_self (s : State) (c : Chan) (f : Channel → Channel) :
    (s.modChan c f).chan c = f (s.chan c) := by
  simp [State.chan_modChan]

theorem State.chan_modChan_ne (s : State) {c d : Chan} (h : c ≠ d) (f : Channel → Channel) :
    (s.modChan c f).chan d = s.chan d := by
  simp [State.chan_modChan, h]

theorem State.chan_setBuffer (s : State) (c d : Chan) (b : Buffer) :
    (s.setBuffer c b).chan d = if c = d then { s.chan c with buffer := b } else s.chan d :=
  State.chan_modChan s c d _

@[simp] theorem State.chan_setBuffer_self (s : State) (c : Chan) (b : Buffer) :
    (s.setBuffer c b).chan c = { s.chan c with buffer := b } := by
  simp [State.chan_setBuffer]

theorem State.chan_answer (s : State) (c d : Chan) (a : Answer) :
    (s.answer c a).chan d
      = if c = d then { s.chan c with txn := none, answers := (s.chan c).answers ++ [a] } else s.chan d :=
  State.chan_modChan s c d _

@[simp] theorem State.chan_answer_self (s : State) (c : Chan) (a : Answer) :
    (s.answer c a).chan c = { s.chan c with txn := none, answers := (s.chan c).answers ++ [a] } := by
  simp [State.chan_answer]

@[simp] theorem State.chan_mapChans (s : State) (f : Chan → Channel → Channel) (c : Chan) :
    (s.mapChans f).chan c = f c (s.chan c) := by
  simp [State.chan, State.mapChans]

@[simp] theorem State.chan_takeFault (s : State) (c d : Chan) (k : Access) (a : ChanAddr) (x : Cause) :
    (s.takeFault c k a x).chan d = s.chan d := by
  simp only [State.takeFault]
  split <;> rfl

@[simp] theorem State.chan_with_resetHeld (s : State) (x : Bool) (c : Chan) :
    ({ s with resetHeld := x } : State).chan c = s.chan c := rfl

@[simp] theorem State.chan_with_windowBase (s : State) (x : Word) (c : Chan) :
    ({ s with windowBase := x } : State).chan c = s.chan c := rfl

@[simp] theorem State.chan_with_bridge (s : State) (x : BridgeState) (c : Chan) :
    ({ s with bridge := x } : State).chan c = s.chan c := rfl

@[simp] theorem State.chan_with_tc (s : State) (x : Tc) (c : Chan) :
    ({ s with tc := x } : State).chan c = s.chan c := rfl

@[simp] theorem State.chan_with_walk (s : State) (x : WalkUnit) (c : Chan) :
    ({ s with walk := x } : State).chan c = s.chan c := rfl

@[simp] theorem State.chan_with_shadow (s : State) (x : Shadow) (c : Chan) :
    ({ s with shadow := x } : State).chan c = s.chan c := rfl

@[simp] theorem State.chan_with_inv (s : State) (x : InvQueue) (c : Chan) :
    ({ s with inv := x } : State).chan c = s.chan c := rfl

@[simp] theorem State.chan_with_bus (s : State) (x : BusMaster) (c : Chan) :
    ({ s with bus := x } : State).chan c = s.chan c := rfl

@[simp] theorem State.chan_with_log (s : State) (x : FaultLog) (c : Chan) :
    ({ s with log := x } : State).chan c = s.chan c := rfl

@[simp] theorem State.chan_with_sticky (s : State) (x : Sticky) (c : Chan) :
    ({ s with sticky := x } : State).chan c = s.chan c := rfl

@[simp] theorem State.chan_with_ints (s : State) (x : Interrupts) (c : Chan) :
    ({ s with ints := x } : State).chan c = s.chan c := rfl

@[simp] theorem State.chan_with_cmd (s : State) (x : CommandUnit) (c : Chan) :
    ({ s with cmd := x } : State).chan c = s.chan c := rfl

@[simp] theorem State.chan_with_time (s : State) (x : Timebase) (c : Chan) :
    ({ s with time := x } : State).chan c = s.chan c := rfl

@[simp] theorem State.chan_with_freeCount (s : State) (x : Nat) (c : Chan) :
    ({ s with freeCount := x } : State).chan c = s.chan c := rfl

@[simp] theorem State.chan_with_pending (s : State) (x : List Instr) (c : Chan) :
    ({ s with pending := x } : State).chan c = s.chan c := rfl

/-! ## Counting reservations -/

theorem countP_set_add {α : Type} (p : α → Bool) (l : List α) (i : Nat) (x : α) (h : i < l.length) :
    (l.set i x).countP p + (if p l[i] then 1 else 0) = l.countP p + (if p x then 1 else 0) := by
  have hmem : p l[i] = true → 0 < l.countP p := fun hp => List.countP_pos_iff.mpr ⟨l[i], List.getElem_mem h, hp⟩
  rw [List.countP_set h]
  by_cases hp : p l[i] = true
  · have := hmem hp
    simp only [hp, if_true]
    omega
  · simp [hp]

/-- One channel's buffer replaced: the reservations change by that channel's alone. -/
theorem State.reservations_setChan (s : State) (c : Chan) (x : Channel) :
    (s.setChan c x).reservations + (if (s.chan c).buffer.reservation = .held then 1 else 0)
      = s.reservations + (if x.buffer.reservation = .held then 1 else 0) := by
  have h := countP_set_add (fun ch : Channel => ch.buffer.reservation == .held) s.chans.toList c.val x
    (by simp)
  simp only [beq_iff_eq] at h
  simp only [State.reservations, State.setChan, Vector.toList_set]
  exact h

theorem State.reservations_of_chans {s t : State} (h : s.chans = t.chans) : s.reservations = t.reservations := by
  simp [State.reservations, h]

end Sys2Proof.Machine
end

