-- ==== Sys2Proof/Laws/Exec.lean ====
section
/-!
SUPPORT. What exec answers for each command, one equation per constructor, and how a property of states is kept by a step.
-/

namespace Sys2Proof.Machine

section
variable (s : State)

theorem exec_resetAssertion :
    exec (.resetAssertion) s = .next (s.unlessReset State.assertReset) := rfl

theorem exec_resetRelease (wsel1 wsel0 : Bool) :
    exec (.resetRelease wsel1 wsel0) s = .next (if s.resetHeld then s.releaseReset wsel1 wsel0 else s) := rfl

theorem exec_read (c : Chan) (addr : ChanAddr) (size : Size) :
    exec (.read c addr size) s = .next (s.present c (.read addr size)) := rfl

theorem exec_write (c : Chan) (addr : ChanAddr) (data : WriteData) :
    exec (.write c addr data) s = .next (s.present c (.write addr data)) := rfl

theorem exec_sync (c : Chan) :
    exec (.sync c) s = .next (s.present c .sync) := rfl

theorem exec_chEnable (channel : BitVec 4) (page : BitVec 14) :
    exec (.chEnable channel page) s = .next (s.unlessReset fun s => s.command .chEnable channel page) := rfl

theorem exec_chDisable (channel : BitVec 4) (page : BitVec 14) :
    exec (.chDisable channel page) s = .next (s.unlessReset fun s => s.command .chDisable channel page) := rfl

theorem exec_chResume (channel : BitVec 4) (page : BitVec 14) :
    exec (.chResume channel page) s = .next (s.unlessReset fun s => s.command .chResume channel page) := rfl

theorem exec_chAbort (channel : BitVec 4) (page : BitVec 14) :
    exec (.chAbort channel page) s = .next (s.unlessReset fun s => s.command .chAbort channel page) := rfl

theorem exec_xlatFlushPage (channel : BitVec 4) (page : BitVec 14) :
    exec (.xlatFlushPage channel page) s = .next (s.unlessReset fun s => s.command .xlatFlushPage channel page) := rfl

theorem exec_xlatFlushChannel (channel : BitVec 4) (page : BitVec 14) :
    exec (.xlatFlushChannel channel page) s = .next (s.unlessReset fun s => s.command .xlatFlushChannel channel page) := rfl

theorem exec_xlatFlushAll (channel : BitVec 4) (page : BitVec 14) :
    exec (.xlatFlushAll channel page) s = .next (s.unlessReset fun s => s.command .xlatFlushAll channel page) := rfl

theorem exec_xlatProbe (channel : BitVec 4) (page : BitVec 14) :
    exec (.xlatProbe channel page) s = .next (s.unlessReset fun s => s.command .xlatProbe channel page) := rfl

theorem exec_tagsClear (channel : BitVec 4) (page : BitVec 14) :
    exec (.tagsClear channel page) s = .next (s.unlessReset fun s => s.command .tagsClear channel page) := rfl

theorem exec_lookupService :
    exec (.lookupService) s = .next (s.unlessReset State.lookupService) := rfl

theorem exec_commandService :
    exec (.commandService) s = .next (s.unlessReset State.commandService) := rfl

theorem exec_busGrant :
    exec (.busGrant) s = .next (s.unlessReset State.busGrant) := rfl

theorem exec_walkDataReturn (id : Nat) (result : WalkResult) :
    exec (.walkDataReturn id result) s = .next (s.unlessReset fun s => s.complete (.walk id result)) := rfl

theorem exec_lineReadDataReturn (id : Nat) (result : LineResult) :
    exec (.lineReadDataReturn id result) s = .next (s.unlessReset fun s => s.complete (.lineRead id result)) := rfl

theorem exec_lineWriteAcknowledge (id : Nat) (ack : Ack) :
    exec (.lineWriteAcknowledge id ack) s = .next (s.unlessReset fun s => s.complete (.lineWrite id ack)) := rfl

theorem exec_killAcknowledge (id : Nat) (ack : Ack) :
    exec (.killAcknowledge id ack) s = .next (s.unlessReset fun s => s.complete (.kill id ack)) := rfl

theorem exec_ignoredCompletion (completion : Completion) :
    exec (.ignoredCompletion completion) s = .next (s.unlessReset fun s => s.complete completion) := rfl

theorem exec_observedWrite (addr : Word) (enables : List Bool) :
    exec (.observedWrite addr enables) s = .next (s.unlessReset fun s => s.observe { addr, enables }) := rfl

theorem exec_fill (line : Word) (way : Way) :
    exec (.fill line way) s = .next (s.unlessReset fun s => s.takeFill line way) := rfl

theorem exec_sweepStep :
    exec (.sweepStep) s = .next (s.unlessReset State.takeSweepStep) := rfl

theorem exec_tick :
    exec (.tick) s = .next (s.unlessReset State.tick) := rfl

theorem exec_idleTimerExpiry (c : Chan) :
    exec (.idleTimerExpiry c) s = .next (s.unlessReset fun s => s.expireTimer c) := rfl

theorem exec_softReset :
    exec (.softReset) s = .next (s.unlessReset State.softReset) := rfl

theorem exec_faultPop (value : Word) :
    exec (.faultPop value) s = .next (s.unlessReset State.popFault) := rfl

theorem exec_divisorWrite (value : Word) :
    exec (.divisorWrite value) s = .next (s.unlessReset fun s => s.writeDivisor value) := rfl

theorem exec_modeWrite (mode : BitVec 2) :
    exec (.modeWrite mode) s = .next (s.unlessReset fun s => s.writeShadowControl mode s.shadow.wayMask) := rfl

theorem exec_wayMaskWrite (mask : BitVec 8) :
    exec (.wayMaskWrite mask) s = .next (s.unlessReset fun s => { s with shadow := { s.shadow with wayMask := mask } }) := rfl

theorem exec_descriptorWrite (c : Chan) (reg : DescReg) (value : Word) :
    exec (.descriptorWrite c reg value) s = .next (s.unlessReset fun s => s.writeDescriptor c reg value) := rfl

theorem exec_globalStatusClear (value : Word) :
    exec (.globalStatusClear value) s = .next (s.unlessReset fun s => s.clearStatus value) := rfl

theorem exec_intCauseClear (value : Word) :
    exec (.intCauseClear value) s = .next (s.unlessReset fun s => s.clearCauses value) := rfl

theorem exec_channelOffClear (value : Word) :
    exec (.channelOffClear value) s = .next (s.unlessReset fun s => s.clearChannelOff value) := rfl

theorem exec_intMaskWrite (value : Word) :
    exec (.intMaskWrite value) s = .next (s.unlessReset fun s => s.writeMask value) := rfl

theorem exec_registerWrite (addr : Word) (lanes : BitVec 4) (value : Word) :
    exec (.registerWrite addr lanes value) s = .next (s.unlessReset fun s => s.windowWrite addr lanes value) := rfl

end

/-- No command stops the machine. -/
theorem exec_isNext (i : Instr) (s : State) : ∃ t, exec i s = .next t := by
  cases i <;> exact ⟨_, rfl⟩

/-- A property that every command keeps through its own effect is kept by exec. The hypotheses are one for each shared
shape of a meaning. -/
theorem State.unlessReset_keeps {P : State → State → Prop} {s : State} {f : State → State} (refl : P s s)
    (hf : s.resetHeld = false → P s (f s)) : P s (s.unlessReset f) := by
  unfold State.unlessReset
  split
  · exact refl
  · next h => exact hf (by simpa using h)

/-- A step is a command with the queue's rest, or the uncommanded step of an empty queue. -/
theorem step_cases {s t : State} (h : step s = .next t) :
    (∃ c rest, s.pending = c :: rest ∧ exec c { s with pending := rest } = .next t) ∨ (s.pending = [] ∧ t = s.idle) := by
  unfold step at h
  split at h
  · next c rest hp => exact .inl ⟨c, rest, hp, h⟩
  · next hp => exact .inr ⟨hp, by cases h; rfl⟩

/-- A law of states is kept by every step when it does not look at the queue, every command keeps it, and so does the
uncommanded step. -/
theorem step_keeps {P : State → Prop} (queue : ∀ s l, P s → P { s with pending := l })
    (idle : ∀ s, P s → P s.idle) (commands : ∀ i s t, P s → exec i s = .next t → P t) {s t : State} (hs : P s)
    (h : step s = .next t) : P t := by
  obtain ⟨c, rest, -, he⟩ | ⟨-, rfl⟩ := step_cases h
  · exact commands c _ t (queue s rest hs) he
  · exact idle s hs

end Sys2Proof.Machine
end

