-- ==== Sys2Proof/Laws/Ops.lean ====
section
/-!
SUPPORT. One lemma (or a few) for each shared operation, which says once everything it can do; later proofs cite these
in place of unfolding the operation.
-/

namespace Sys2Proof.Machine

/-! ## `RESET#` and requests -/

theorem State.unlessReset_of_not_held {s : State} (h : s.resetHeld = false) (f : State → State) :
    s.unlessReset f = f s := by simp [State.unlessReset, h]

theorem State.unlessReset_of_held {s : State} (h : s.resetHeld = true) (f : State → State) :
    s.unlessReset f = s := by simp [State.unlessReset, h]

theorem State.setChan_chan (s : State) (c : Chan) : s.setChan c (s.chan c) = s := by
  simp [State.setChan, State.chan]

@[simp] theorem State.setChan_setChan (s : State) (c : Chan) (x y : Channel) :
    (s.setChan c x).setChan c y = s.setChan c y := by
  simp [State.setChan]

theorem State.modChan_eq_setChan (s : State) (c : Chan) (f : Channel → Channel) :
    s.modChan c f = s.setChan c (f (s.chan c)) := rfl

theorem State.answer_eq_setChan (s : State) (c : Chan) (a : Answer) :
    s.answer c a = s.setChan c { s.chan c with txn := none, answers := (s.chan c).answers ++ [a] } := rfl

theorem State.setBuffer_eq_setChan (s : State) (c : Chan) (b : Buffer) :
    s.setBuffer c b = s.setChan c { s.chan c with buffer := b } := rfl

theorem exec_request (r : Request) (c : Chan) (s : State) : exec (r.instr c) s = .next (s.present c r) := by
  cases r <;> rfl

/-- A request presented at a free port is taken at once. -/
theorem State.present_of_portFree {s : State} {c : Chan} (h : PortFree s c) (r : Request) :
    s.present c r = s.takeRequest c r := by
  obtain ⟨h1, h2, h3⟩ := h
  simp only [State.present, State.modChan_eq_setChan]
  rw [State.unlessReset_of_not_held (by simp [h1])]
  have keep : ({ s.chan c with held := [] } : Channel) = s.chan c := by rw [← h3]
  simp only [State.portTake, State.chan_setChan_self, h2, h3, List.nil_append, State.modChan_eq_setChan,
    State.setChan_setChan]
  have eq : ({ state := (s.chan c).state, desc := (s.chan c).desc, txn := none, buffer := (s.chan c).buffer
               readAhead := (s.chan c).readAhead, lineRead := (s.chan c).lineRead, held := []
               answers := (s.chan c).answers } : Channel) = s.chan c := by
    rw [← h2]; exact keep
  rw [eq, State.setChan_chan]

/-! ## The flush of a buffer -/

theorem State.flushBuffer_chan_ne (s : State) {c d : Chan} (h : d ≠ c) : (s.flushBuffer c).chan d = s.chan d := by
  simp only [State.flushBuffer]
  repeat' split
  all_goals simp [State.chan_setBuffer, h.symm]

theorem State.flushBuffer_chan_self (s : State) (c : Chan) :
    (s.flushBuffer c).chan c = { s.chan c with buffer := ((s.flushBuffer c).chan c).buffer } := by
  simp only [State.flushBuffer]
  repeat' split
  all_goals simp

theorem State.flushBuffer_eq (s : State) (c : Chan) :
    s.flushBuffer c = { s with chans := (s.flushBuffer c).chans, inv := (s.flushBuffer c).inv } := by
  simp only [State.flushBuffer]
  repeat' split
  all_goals simp [State.setBuffer_eq_setChan, State.setChan]

/-- R83, R87, R123: everything a flush does to the buffer and to the waiters. -/
theorem State.flushBuffer_flushed (s : State) (c : Chan) : Flushed s (s.flushBuffer c) c := by
  simp only [Flushed, State.flushBuffer, needsReservation]
  by_cases h : (s.chan c).buffer.state = .filling
  · simp only [h, if_true]
    cases hc : (s.chan c).buffer.coh <;> cases hm : s.shadow.mode <;> simp [ShadowMode.tracksFills] <;> split <;>
      simp_all
  · simp [h]

theorem State.flushBuffer_of_not_filling {s : State} {c : Chan} (h : (s.chan c).buffer.state ≠ .filling) :
    s.flushBuffer c = s := by
  simp [State.flushBuffer, h]

theorem State.flushBuffer_entries (s : State) (c : Chan) : (s.flushBuffer c).inv.entries = s.inv.entries := by
  simp only [State.flushBuffer]
  repeat' split
  all_goals simp

theorem State.flushBuffer_buffer_state (s : State) (c : Chan) :
    ((s.flushBuffer c).chan c).buffer.state =
      if (s.chan c).buffer.state = .filling then .pending else (s.chan c).buffer.state := by
  simp only [State.flushBuffer]
  repeat' split
  all_goals simp_all

theorem State.placesInUse_congr {s t : State} (h1 : s.inv = t.inv)
    (h2 : ∀ c, (s.chan c).buffer.reservation = (t.chan c).buffer.reservation) : s.placesInUse = t.placesInUse := by
  simp only [State.placesInUse, h1, State.reservations]
  congr 1
  have same : s.chans.toList.map (fun ch => ch.buffer.reservation) = t.chans.toList.map fun ch => ch.buffer.reservation := by
    apply List.ext_getElem (by simp)
    intro i a b
    simp at a b
    simpa [State.chan] using h2 ⟨i, a⟩
  have := congrArg (List.countP (· == Reservation.held)) same
  simpa [List.countP_map, Function.comp_def] using this

theorem Flushed.congr {s s' t t' : State} {c : Chan} (h : Flushed s t c)
    (h1 : (s'.chan c).buffer = (s.chan c).buffer) (h2 : (t'.chan c).buffer = (t.chan c).buffer) (h3 : s'.inv = s.inv)
    (h4 : t'.inv = t.inv) (h5 : s'.shadow.mode = s.shadow.mode) (h6 : s'.placesInUse = s.placesInUse) :
    Flushed s' t' c := by
  simp only [Flushed, h1, h2, h3, h4, h5, h6] at h ⊢
  exact h

/-! ## Faults -/

theorem State.takeFault_eq (s : State) (c : Chan) (k : Access) (a : ChanAddr) (x : Cause) :
    s.takeFault c k a x = { s with log := (s.takeFault c k a x).log, ints := (s.takeFault c k a x).ints } := by
  simp only [State.takeFault]
  split <;> rfl

/-- R153: everything the log does with a fault. -/
theorem State.takeFault_logged (s : State) (c : Chan) (k : Access) (a : ChanAddr) (x : Cause) :
    Logged s (s.takeFault c k a x) c k a x := by
  simp only [Logged, State.takeFault]
  split <;> simp_all

/-- R73 to R75: everything a fault of a transaction does. -/
theorem State.failTransaction_taken (s : State) (c : Chan) (k : Access) (a : ChanAddr) (x : Cause) (ans : Answer) :
    FaultTaken s (s.failTransaction c k a x ans) c k a x ans := by
  have places : ((s.answer c ans).takeFault c k a x).placesInUse = s.placesInUse := by
    apply State.placesInUse_congr
    · rw [State.takeFault_eq]; rfl
    · intro d; rw [State.chan_takeFault, State.chan_answer]; split <;> simp_all
  have lg := (s.answer c ans).takeFault_logged c k a x
  simp only [State.failTransaction]
  by_cases ha : (s.chan c).state = .active
  · have ha' : (((s.answer c ans).takeFault c k a x).chan c).state = .active := by simp [ha]
    simp only [State.enterFaulted, ha', if_true]
    set u := (s.answer c ans).takeFault c k a x with hu
    have fl := u.flushBuffer_flushed c
    have fc := u.flushBuffer_chan_self c
    refine ⟨?_, ?_, ?_, ?_⟩
    · simp only [Logged] at lg ⊢
      have e1 : ((u.flushBuffer c).modChan c fun ch => { ch with state := .faulted, readAhead := none }).log = u.log := by
        simp
      have e2 : ((u.flushBuffer c).modChan c fun ch => { ch with state := .faulted, readAhead := none }).ints = u.ints := by
        simp
      rw [e1, e2]; exact lg
    · rw [if_pos ha]
      constructor
      · refine Flushed.congr fl ?_ ?_ ?_ ?_ ?_ ?_
        · simp [hu]
        · simp
        · rw [hu, State.takeFault_eq]; rfl
        · simp
        · simp [hu]
        · exact places.symm
      · rw [State.chan_modChan_self, fc]; simp [hu]
    · intro d hd
      rw [State.modChan_eq_setChan, State.chan_setChan_ne _ hd.symm, State.flushBuffer_chan_ne _ hd, hu]
      simp [State.chan_answer, hd.symm]
    · rw [State.modChan_eq_setChan, State.flushBuffer_eq, hu, State.takeFault_eq]
      simp [State.setChan, State.answer_eq_setChan]
  · have ha' : (((s.answer c ans).takeFault c k a x).chan c).state ≠ .active := by simp [ha]
    simp only [State.enterFaulted, if_neg ha']
    refine ⟨?_, ?_, ?_, ?_⟩
    · simp only [Logged] at lg ⊢; exact lg
    · rw [if_neg ha]
      constructor
      · rw [State.takeFault_eq]; rfl
      · simp
    · intro d hd; simp [State.chan_answer, hd.symm]
    · rw [State.takeFault_eq]; simp [State.answer_eq_setChan, State.setChan]

/-! ## SYNC, drain and abort -/

theorem State.noEntryOf_iff (s : State) (c : Chan) : s.noEntryOf c = true ↔ ∀ e ∈ s.inv.entries, c ∉ e.chans := by
  simp [State.noEntryOf]

theorem State.syncReady_iff (s : State) (c : Chan) :
    s.syncReady c = true ↔
      (s.chan c).buffer.state = .empty ∧ (s.chan c).buffer.reservation ≠ .held ∧ ∀ e ∈ s.inv.entries, c ∉ e.chans := by
  simp [State.syncReady, State.noEntryOf_iff, and_assoc]

theorem State.drainReady_iff (s : State) (c : Chan) :
    s.drainReady c = true ↔
      (s.chan c).txn = none ∧ (s.chan c).buffer.state = .empty ∧ s.inWalkQueue c = false ∧ s.inSlot c = false ∧
        (s.chan c).buffer.reservation ≠ .held ∧ ∀ e ∈ s.inv.entries, c ∉ e.chans := by
  simp [State.drainReady, State.noEntryOf_iff, and_assoc]

theorem State.abortReady_iff (s : State) (c : Chan) :
    s.abortReady c = true ↔
      s.inSlot c = false ∧ (∀ r, (s.chan c).lineRead = some r → r.issued = false) ∧
        (s.chan c).buffer.state ≠ .writing := by
  simp only [State.abortReady]
  cases (s.chan c).lineRead <;> simp [and_assoc]

theorem State.trySync_of_no_transaction {s : State} {c : Chan} (h : (s.chan c).txn = none) : s.trySync c = s := by
  simp [State.trySync, h]

theorem State.trySync_of_not_ready {s : State} {c : Chan}
    (h : ∀ t, (s.chan c).txn = some t → t.request = .sync → s.syncReady c = false) : s.trySync c = s := by
  simp only [State.trySync]
  split
  · rename_i t ht
    split
    · rename_i ready; have := h t ht ready.1; simp_all
    · rfl
  · rfl

/-- A channel that neither drains nor aborts, with no SYNC to answer, is not changed by the test of its conditions. -/
theorem State.settle_of_running {s : State} {c : Chan}
    (h : (s.chan c).state ≠ .draining ∧ (s.chan c).state ≠ .aborting)
    (ht : ∀ t, (s.chan c).txn = some t → t.request = .sync → s.syncReady c = false) : s.settle c = s := by
  simp [State.settle, State.trySync_of_not_ready ht, State.tryDrain, State.tryAbort, h.1, h.2]

theorem State.reachDisabled_chan (s : State) (c d : Chan) :
    (s.reachDisabled c).chan d = if c = d then { s.chan c with state := .disabled } else s.chan d := by
  have : (s.reachDisabled c).chan d = (s.modChan c fun ch => { ch with state := .disabled }).chan d := rfl
  rw [this, State.chan_modChan]

theorem channelOff_bit (c : Chan) : (1#8 <<< c.val) = BitVec.ofNat 8 (2 ^ c.val) := by
  revert c; decide

/-- R38, R160: everything the arrival in DISABLED does beside the channel's state. -/
theorem State.reachDisabled_eq (s : State) (c : Chan) :
    s.reachDisabled c =
      { s with
        chans := (s.reachDisabled c).chans
        tc := s.tc.dropWhere fun e => e.chan == c
        ints := { s.ints with channelOff := s.ints.channelOff ||| BitVec.ofNat 8 (2 ^ c.val) } } := by
  simp [State.reachDisabled, State.raiseChannelOff, State.modChan, State.setChan, channelOff_bit]

/-! ## Invalidate places -/

/-- R125: everything the grant of a place can do. -/
theorem State.grantPlace_cases (s : State) :
    (s.grantPlace = s ∧ (s.inv.waiters = [] ∨ 8 ≤ s.placesInUse)) ∨
      ∃ c rest, s.inv.waiters = c :: rest ∧ s.placesInUse < 8 ∧
        s.grantPlace =
          ({ s with inv := { s.inv with waiters := rest } } : State).setBuffer c
            { (s.chan c).buffer with reservation := .held } := by
  simp only [State.grantPlace]
  split
  · rename_i h; exact .inl ⟨rfl, .inl h⟩
  · rename_i c rest h
    split
    · rename_i hp; exact .inr ⟨c, rest, h, hp, rfl⟩
    · rename_i hp; exact .inl ⟨rfl, .inr (by omega)⟩

theorem State.grantPlace_entries (s : State) : s.grantPlace.inv.entries = s.inv.entries := by
  rcases s.grantPlace_cases with ⟨h, -⟩ | ⟨c, rest, -, -, h⟩
  · rw [h]
  · rw [h]; simp

theorem State.releaseReservation_entries (s : State) (c : Chan) :
    (s.releaseReservation c).inv.entries = s.inv.entries := by
  simp [State.releaseReservation, State.grantPlace_entries, State.endReservation]

/-- R127: everything a queue result does to the entries. -/
theorem State.queueInvalidate_entries (s : State) (c : Chan) (line : Word) :
    (s.queueInvalidate c line).inv.entries =
      if s.hasUnissued line then
        s.inv.entries.map fun e => if e.line = line ∧ e.issued = false then e.add c else e
      else s.inv.entries ++ [{ line, chans := [c], issued := false }] := by
  simp only [State.queueInvalidate]
  split
  · simp [State.releaseReservation_entries]
  · simp [State.endReservation]

/-! ## Walk slots -/

theorem entryAddress_eq (origin : Word) (p : Page) :
    entryAddress origin p = BitVec.ofNat 32 (origin.toNat + 4 * p.toNat) := by
  apply BitVec.eq_of_toNat_eq
  have := p.isLt
  have four : (4 : Word).toNat = 4 := rfl
  simp only [entryAddress, BitVec.toNat_add, BitVec.toNat_mul, BitVec.toNat_setWidth, BitVec.toNat_ofNat, four]
  omega

/-- R49: everything the freeing of a slot does. -/
theorem State.freeSlot_freed (s : State) (i : Fin 2) : SlotFreed s (s.freeSlot i) i := by
  simp only [SlotFreed, State.freeSlot]
  split <;> rename_i h
  · rw [h]
  · rw [h]
    simp [State.takeSlot, entryAddress_eq, State.chan]

/-! ## The translation cache -/

/-- R19, R20: everything a drop of entries does. -/
theorem Tc.dropWhere_dropped (t : Tc) (p : TcEntry → Bool) : Dropped t (t.dropWhere p) (fun e => p e = true) := by
  simp only [Dropped, Tc.dropWhere]
  refine ⟨?_, ?_, ?_, trivial, trivial⟩
  · intro i e h; simp only [Fin.getElem_fin] at h; simp [h]
  · intro i h; simp only [Fin.getElem_fin] at h; simp [h]
  · simp

theorem Tc.find_some {t : Tc} {c : Chan} {p : Page} {i : Fin 16} {e : TcEntry} (h : t.find c p = some (i, e)) :
    t.entries[i] = some e ∧ e.chan = c ∧ e.page = p := by
  simp only [Tc.find] at h
  obtain ⟨j, -, hj⟩ := List.exists_of_findSome?_eq_some h
  split at hj
  · rename_i x hx
    split at hj
    · rename_i hp; cases hj; exact ⟨hx, hp⟩
    · cases hj
  · cases hj

theorem Tc.find_none {t : Tc} {c : Chan} {p : Page} (h : t.find c p = none) (i : Fin 16) (e : TcEntry)
    (he : t.entries[i] = some e) : ¬ (e.chan = c ∧ e.page = p) := by
  simp only [Tc.find, List.findSome?_eq_none_iff] at h
  have := h i (List.mem_finRange i)
  rw [he] at this
  intro hp
  simp [hp] at this

/-! ## Commands -/

theorem chanOfOperand_eq {channel : BitVec 4} {c : Chan} (h : channel.toNat = c.val) : chanOfOperand channel = c := by
  apply Fin.ext
  have := c.isLt
  simp [chanOfOperand, h]

theorem Descriptor.legal_iff (d : Descriptor) :
    d.legal = true ↔
      1 ≤ d.mapLength.toNat ∧ d.mapLength.toNat ≤ 8192 ∧ 1 ≤ d.quota.toNat ∧ d.quota.toNat ≤ 16 ∧
        d.mapOrigin.toNat + 4 * d.mapLength.toNat ≤ 2 ^ 32 := by
  simp [Descriptor.legal, and_assoc]

/-- R170: a command that passes its tests is dispatched. -/
theorem State.command_of_ready {s : State} (h : CommandReady s) {n : CommandName} {channel : BitVec 4} {page : BitVec 14}
    (ok : n.operandsOk channel page = true) : s.command n channel page = s.dispatchCommand n channel page := by
  obtain ⟨-, h2, h3⟩ := h
  simp [State.command, h2, h3, ok]

theorem CommandName.operandsOk_of_channel {n : CommandName} {channel : BitVec 4} {page : BitVec 14} {c : Chan}
    (h : channel.toNat = c.val) (hn : n.usesPage = false) : n.operandsOk channel page = true := by
  have : channel.toNat < 8 := by omega
  simp [CommandName.operandsOk, this, hn]

end Sys2Proof.Machine
end

