-- ==== Sys2Proof/Laws/Path.lean ====
section
/-!
SUPPORT. What the operations on the path of an access do, each said once: the test of a channel's conditions, the wait for a
buffer, the read path, the hand-over of a freed place, the end of a reservation, the bus error of a line write, the flush of
several buffers, and the discard of one.
-/

namespace Sys2Proof.Machine

/-! ## The test of the conditions -/

theorem State.trySync_of_ends {s : State} {c : Chan} {x : Transaction} (hx : (s.chan c).txn = some x)
    (h : SyncEnds s c) : s.trySync c = s.answer c (if x.writeErrorSeen = true then .fault else .done []) := by
  obtain ⟨⟨y, hy, hr⟩, hc⟩ := h
  obtain rfl : x = y := by rw [hx] at hy; exact Option.some.inj hy
  simp [State.trySync, hx, hr, (State.syncReady_iff s c).mpr hc]

theorem State.trySync_of_not_ends {s : State} {c : Chan} (h : ¬ SyncEnds s c) : s.trySync c = s :=
  State.trySync_of_not_ready fun t ht hr => by
    by_contra hn
    exact h ⟨⟨t, ht, hr⟩, (State.syncReady_iff s c).mp (by simpa using hn)⟩

theorem State.trySync_tested (s : State) (c : Chan) : SyncTested s (s.trySync c) c := by
  refine ⟨fun x hx h => ?_, fun h => ?_⟩
  · rw [State.trySync_of_ends hx h]; simp
  · rw [State.trySync_of_not_ends h]; simp

theorem State.trySync_eq (s : State) (c : Chan) : s.trySync c = { s with chans := (s.trySync c).chans } := by
  simp only [State.trySync]
  repeat' split
  all_goals rfl

theorem State.trySync_chan_ne (s : State) {c d : Chan} (h : d ≠ c) : (s.trySync c).chan d = s.chan d := by
  simp only [State.trySync]
  repeat' split
  all_goals simp [State.chan_answer, h.symm]

theorem State.trySync_chan_self (s : State) (c : Chan) :
    (s.trySync c).chan c =
      { s.chan c with txn := ((s.trySync c).chan c).txn, answers := ((s.trySync c).chan c).answers } := by
  simp only [State.trySync]
  repeat' split
  all_goals simp

theorem SyncTested.txn_none_iff {s t : State} {c : Chan} (h : SyncTested s t c) :
    (t.chan c).txn = none ↔ (s.chan c).txn = none ∨ SyncEnds s c := by
  by_cases hs : SyncEnds s c
  · obtain ⟨⟨x, hx, -⟩, -⟩ := id hs
    simp [(h.1 x hx hs).1, hs]
  · simp [(h.2 hs).1, hs]

/-- R69, R71: the channel reaches DISABLED exactly when its drain or its abort ends. -/
theorem State.settle_eq (s : State) (c : Chan) :
    (DrainEnds s c ∨ AbortEnds s c → s.settle c = (s.trySync c).reachDisabled c) ∧
      (¬ (DrainEnds s c ∨ AbortEnds s c) → s.settle c = s.trySync c) := by
  have hn := (State.trySync_tested s c).txn_none_iff
  have hch := State.trySync_chan_self s c
  have hinv : (s.trySync c).inv = s.inv := by simp
  have hwalk : (s.trySync c).walk = s.walk := by simp
  set u := s.trySync c with hu
  have hst : (u.chan c).state = (s.chan c).state := by rw [hch]
  have hbuf : (u.chan c).buffer = (s.chan c).buffer := by rw [hch]
  have hlr : (u.chan c).lineRead = (s.chan c).lineRead := by rw [hch]
  have drain : ((u.chan c).state = .draining ∧ u.drainReady c = true) ↔ DrainEnds s c := by
    have i1 : u.inWalkQueue c = s.inWalkQueue c := by simp [State.inWalkQueue, hwalk]
    have i2 : u.inSlot c = s.inSlot c := by simp [State.inSlot, hwalk]
    rw [State.drainReady_iff, hst, hbuf, hinv, i1, i2, hn]
    simp only [DrainEnds, SyncCondition]
    tauto
  have abort : ((u.chan c).state = .aborting ∧ u.abortReady c = true) ↔ AbortEnds s c := by
    have i2 : u.inSlot c = s.inSlot c := by simp [State.inSlot, hwalk]
    rw [State.abortReady_iff, hst, hbuf, hlr, i2]
    simp only [AbortEnds]
  have e : s.settle c = (u.tryDrain c).tryAbort c := rfl
  rw [e]
  by_cases hd : DrainEnds s c
  · have hd' : (u.reachDisabled c).tryAbort c = u.reachDisabled c := by
      simp [State.tryAbort, State.reachDisabled_chan]
    simp [State.tryDrain, if_pos (drain.mpr hd), hd, hd']
  · have hd' : u.tryDrain c = u := by simp only [State.tryDrain, if_neg (fun h => hd (drain.mp h))]
    rw [hd']
    by_cases ha : AbortEnds s c
    · simp [State.tryAbort, if_pos (abort.mpr ha), ha]
    · simp only [State.tryAbort, if_neg (fun h => ha (abort.mp h))]
      simp [hd, ha]

/-- R63, R69, R71: everything the test of a channel's conditions does. -/
theorem State.settle_tested (s : State) (c : Chan) : ConditionsTested s (s.settle c) c := by
  have hs := State.trySync_tested s c
  have hself := State.trySync_chan_self s c
  have heq := State.trySync_eq s c
  have hne : ∀ d, d ≠ c → (s.trySync c).chan d = s.chan d := fun d h => State.trySync_chan_ne s h
  have htc : (s.trySync c).tc = s.tc := by simp
  have hints : (s.trySync c).ints = s.ints := by simp
  by_cases h : DrainEnds s c ∨ AbortEnds s c
  · rw [(State.settle_eq s c).1 h]
    set u := s.trySync c
    have hc : (u.reachDisabled c).chan c = { u.chan c with state := .disabled } := by
      simp [State.reachDisabled_chan]
    refine ⟨?_, fun _ => ⟨by rw [hc], ?_, ?_⟩, fun hn => absurd h hn, ?_, ?_, ?_⟩
    · simp only [SyncTested, hc]; exact hs
    · rw [State.reachDisabled_eq, htc]
      have := Tc.dropWhere_dropped s.tc fun e => e.chan == c
      simpa using this
    · rw [State.reachDisabled_eq, hints]
    · rw [hc, hself]
    · intro d hd
      rw [State.reachDisabled_chan, if_neg (Ne.symm hd), hne d hd]
    · rw [State.reachDisabled_eq, heq]
  · rw [(State.settle_eq s c).2 h]
    refine ⟨hs, fun hp => absurd hp h, fun _ => ⟨by rw [hself], htc, hints⟩, ?_, hne, ?_⟩
    · have : ((s.trySync c).chan c).state = (s.chan c).state := by rw [hself]
      rw [this]; exact hself
    · rw [heq]

/-- A READ's or WRITE's channel that neither drains nor aborts is not changed by the test. -/
theorem State.settle_of_access {s : State} {c : Chan} (h1 : (s.chan c).state ≠ .draining)
    (h2 : (s.chan c).state ≠ .aborting) (h3 : ∀ t, (s.chan c).txn = some t → t.request ≠ .sync) : s.settle c = s :=
  State.settle_of_running ⟨h1, h2⟩ fun t ht hr => absurd hr (h3 t ht)

/-! ## The buffer's wait and the read path -/

/-- R62: everything the flush of a buffer and the wait for it do. -/
theorem State.flushBuffer_waits (s : State) (c : Chan) (tr : Translation) :
    WaitsForBuffer s ((s.flushBuffer c).waitForBuffer c tr) c tr := by
  have hself := State.flushBuffer_chan_self s c
  refine ⟨?_, ?_, ?_, ?_⟩
  · exact (State.flushBuffer_flushed s c).congr rfl (by simp [State.waitForBuffer]) rfl (by simp) rfl rfl
  · simp only [State.waitForBuffer, State.chan_modChan_self]
    rw [hself]
  · intro d hd
    rw [State.waitForBuffer, State.chan_modChan_ne _ (Ne.symm hd), State.flushBuffer_chan_ne _ hd]
  · simp [State.waitForBuffer, State.modChan, State.setChan]

/-- R62: the wait for a buffer that is not FILLING. -/
theorem State.waitForBuffer_waits {s : State} {c : Chan} (h : (s.chan c).buffer.state ≠ .filling) (tr : Translation) :
    WaitsForBuffer s (s.waitForBuffer c tr) c tr := by
  have := State.flushBuffer_waits s c tr
  rwa [State.flushBuffer_of_not_filling h] at this

theorem Channel.readAheadFor_eq_some (ch : Channel) (line : Word) (d : LineData) :
    ch.readAheadFor line = some d ↔
      ch.state = .active ∧ ch.desc.readAhead = true ∧ ch.readAhead = some { line := line, data := d } := by
  simp only [Channel.readAheadFor]
  split
  · rename_i h
    cases hr : ch.readAhead with
    | none => simp
    | some l =>
      obtain ⟨a, b⟩ := l
      by_cases hl : a = line <;> simp [h.1, h.2, hl]
  · rename_i h
    simp only [reduceCtorEq, false_iff]
    tauto

/-- R94: everything the read path does with a READ. -/
theorem State.placeRead_reached (s : State) (c : Chan) (size : Size) (tr : Translation) :
    ReadReached s (s.placeRead c size tr) c size tr := by
  simp only [ReadReached, State.placeRead]
  by_cases own : (s.chan c).buffer.state ≠ .empty ∧ (s.chan c).buffer.line = tr.line
  · rw [if_pos own]
    exact ⟨fun _ => State.flushBuffer_waits s c tr, fun _ h => absurd own h, fun h => absurd own h⟩
  · rw [if_neg own]
    refine ⟨fun h => absurd h own, fun d _ h1 h2 h3 => ?_, fun _ h => ?_⟩
    · have hd := ((s.chan c).readAheadFor_eq_some tr.line d).mpr ⟨h1, h2, h3⟩
      simp [State.serveRead, hd, State.answer, bytesAt]
    · have hn : (s.chan c).readAheadFor tr.line = none := by
        by_contra hne
        obtain ⟨d, hd⟩ := Option.ne_none_iff_exists'.mp hne
        obtain ⟨h1, h2, h3⟩ := ((s.chan c).readAheadFor_eq_some tr.line d).mp hd
        exact h ⟨h1, h2, d, h3⟩
      simp [State.serveRead, hn, State.requestLineRead]

/-- R12, R18: the model's translation of an access is the one the rules bind it to. -/
theorem translationOf_eq (x : Xlat) (addr : ChanAddr) : translationOf x addr = boundTo x addr := by
  have h : hostAddress x.frame addr = BitVec.ofNat 32 (x.frame.toNat * 2048 + addr.toNat % 2048) := by
    apply BitVec.eq_of_toNat_eq
    have := x.frame.isLt
    simp only [hostAddress, offsetOf, BitVec.toNat_append, BitVec.extractLsb'_toNat, BitVec.toNat_ofNat,
      Nat.shiftRight_zero]
    rw [← Nat.shiftLeft_add_eq_or_of_lt (Nat.mod_lt _ (by decide)), Nat.shiftLeft_eq]
    have := Nat.mod_lt addr.toNat (show 0 < 2 ^ 11 by decide)
    omega
  simp [translationOf, boundTo, h]

/-! ## Places and reservations -/

/-- R125: everything the queue does with a place that has become free. -/
theorem State.grantPlace_freed {s : State} (h : s.inv.waiters ≠ [] → s.placesInUse < 8) : PlaceFreed s s.grantPlace := by
  simp only [PlaceFreed, State.grantPlace]
  split
  · rename_i hw; simp [hw]
  · rename_i d rest hw
    simp only [hw, h (by simp [hw]), if_true]
    refine ⟨by simp, fun e he => ?_, by simp [State.setBuffer, State.modChan, State.setChan]⟩
    simp [State.chan_setBuffer, Ne.symm he]

/-- R122: a reservation that ends takes one place off those in use. -/
theorem State.placesInUse_endReservation {s : State} {c : Chan} (h : (s.chan c).buffer.reservation = .held) :
    (s.endReservation c).placesInUse + 1 = s.placesInUse := by
  have := State.reservations_setChan s c { s.chan c with buffer := { (s.chan c).buffer with reservation := .none } }
  simp only [h, if_true] at this
  have e : (s.endReservation c).reservations
      = (s.setChan c { s.chan c with buffer := { (s.chan c).buffer with reservation := .none } }).reservations := rfl
  simp only [State.placesInUse, e]
  have : (s.endReservation c).inv = s.inv := by simp
  rw [this]
  simp at *
  omega

/-- R90, R74, R75: everything the bus error of a WRITING buffer's line write does first. -/
theorem State.writeBusError_taken {s : State} {c : Chan} (h : (s.chan c).buffer.state = .writing) :
    WriteErrorTaken s (s.writeBusError c) c := by
  have lg := s.takeFault_logged c .write (s.chan c).buffer.lineStart .writeBusErr
  have heq := s.takeFault_eq c .write (s.chan c).buffer.lineStart .writeBusErr
  set u := s.takeFault c .write (s.chan c).buffer.lineStart .writeBusErr with hu
  have hch : ∀ d, u.chan d = s.chan d := fun d => by simp [hu]
  have hfl : u.flushBuffer c = u := State.flushBuffer_of_not_filling (by rw [hch, h]; decide)
  have e : s.writeBusError c = (u.enterFaulted c).modChan c Channel.markWriteError := rfl
  simp only [WriteErrorTaken, e, State.enterFaulted, hfl, hch c]
  split
  · refine ⟨lg, ?_, ?_, ?_⟩
    · simp [Channel.markWriteError, hch]
    · intro d hd; simp [State.chan_modChan, Ne.symm hd, hch]
    · simp [State.modChan, State.setChan, hu]
  · refine ⟨lg, ?_, ?_, ?_⟩
    · simp [Channel.markWriteError, hch]
    · intro d hd; simp [State.chan_modChan, Ne.symm hd, hch]
    · simp [State.modChan, State.setChan, hu]

/-! ## The flush of several buffers (R85, R123, R124) -/

/-- A picked order is an order of the same channels. -/
theorem pickOrder_perm {α : Type} (fuel n : Nat) (l : List α) : (pickOrder n fuel l).Perm l := by
  induction fuel generalizing n l with
  | zero => exact .refl _
  | succ fuel ih =>
    cases l with
    | nil => exact .refl _
    | cons a l =>
      have hk : n % (l.length + 1) < (a :: l).length := Nat.mod_lt _ (Nat.succ_pos _)
      have h := List.getElem_cons_eraseIdx_perm hk
      simp only [pickOrder, List.getElem?_eq_getElem hk, Option.getD_some]
      exact ((ih _ _).cons _).trans h

/-- R122, R123: a flush of a FILLING buffer without a place takes at most the place it is granted. -/
theorem State.placesInUse_flushBuffer {s : State} {c : Chan} (h : (s.chan c).buffer.state = .filling)
    (hr : (s.chan c).buffer.reservation ≠ .held) :
    (s.flushBuffer c).placesInUse =
      s.placesInUse + if ((s.flushBuffer c).chan c).buffer.reservation = .held then 1 else 0 := by
  have key : ∀ (b : Buffer) (u : State), u.chans = s.chans → u.inv.entries = s.inv.entries →
      (u.setBuffer c b).placesInUse = s.placesInUse + if b.reservation = .held then 1 else 0 := by
    intro b u hu hi
    have hc : u.chan c = s.chan c := by simp [State.chan, hu]
    have := State.reservations_setChan u c { u.chan c with buffer := b }
    have e : (u.setBuffer c b).reservations = (u.setChan c { u.chan c with buffer := b }).reservations := rfl
    have e2 : u.reservations = s.reservations := by simp [State.reservations, hu]
    simp only [hc, hr, if_false] at this
    simp only [State.placesInUse, e, hc]
    have : (u.setBuffer c b).inv.entries = s.inv.entries := by simp [hi]
    rw [this]
    simp at *
    omega
  obtain ⟨b, u, e, hu, hi⟩ : ∃ (b : Buffer) (u : State),
      s.flushBuffer c = u.setBuffer c b ∧ u.chans = s.chans ∧ u.inv.entries = s.inv.entries := by
    simp only [State.flushBuffer, h, if_true]
    repeat' split
    all_goals exact ⟨_, _, rfl, rfl, rfl⟩
  rw [e, key b u hu hi]
  simp

/-- R123, R124: the flush of several FILLING buffers, one after another: each goes to PENDING with its own decision, and those
that must wait join the tail of the waiters. -/
theorem State.foldl_flushBuffer_joins (cs : List Chan) (s : State) (nd : cs.Nodup)
    (hf : ∀ c ∈ cs, (s.chan c).buffer.state = .filling) :
    let t := cs.foldl State.flushBuffer s
    (∀ d, d ∉ cs → t.chan d = s.chan d) ∧
    ∃ joining : List Chan,
      t.inv = { s.inv with waiters := s.inv.waiters ++ joining } ∧ joining.Nodup ∧
        (∀ c, c ∈ joining ↔ c ∈ cs ∧ (t.chan c).buffer.reservation = .waiting) ∧
        ((∀ c ∈ cs, (s.chan c).buffer.reservation ≠ .held) → s.placesInUse ≤ 8 →
          t.placesInUse ≤ 8 ∧ s.placesInUse ≤ t.placesInUse ∧ (joining ≠ [] → t.placesInUse = 8)) := by
  induction cs generalizing s with
  | nil => exact ⟨fun _ _ => rfl, [], by simp, by simp, by simp, fun _ h => ⟨h, Nat.le_refl _, fun h => absurd rfl h⟩⟩
  | cons c cs ih =>
    obtain ⟨hc, nd⟩ := List.nodup_cons.mp nd
    have hne : ∀ d, d ≠ c → (s.flushBuffer c).chan d = s.chan d := fun d h => State.flushBuffer_chan_ne s h
    have hnc : ∀ d ∈ cs, d ≠ c := fun d hd h => hc (h ▸ hd)
    obtain ⟨hk, js, hi, jnd, hm, hp⟩ := ih (s.flushBuffer c) nd fun d hd => by
      rw [hne d (hnc d hd)]; exact hf d (List.mem_cons_of_mem _ hd)
    have hfl := State.flushBuffer_flushed s c
    have hcf := hf c (List.mem_cons_self ..)
    simp only [Flushed, hcf, if_true] at hfl
    simp only [List.foldl_cons]
    set t := cs.foldl State.flushBuffer (s.flushBuffer c)
    have htc := hk c hc
    have hcj : c ∉ js := fun h => hc ((hm c).mp h).1
    refine ⟨fun d hd => ?_, ?_⟩
    · rw [hk d fun h => hd (List.mem_cons_of_mem _ h), hne d fun h => hd (h ▸ List.mem_cons_self ..)]
    by_cases hw : ((s.flushBuffer c).chan c).buffer.reservation = .waiting
    · have hinv : (s.flushBuffer c).inv = { s.inv with waiters := s.inv.waiters ++ [c] } ∧ 8 ≤ s.placesInUse := by
        obtain ⟨-, h⟩ := hfl
        split at h
        · rw [h.1] at hw; cases hw
        · split at h
          · rw [h.1] at hw; cases hw
          · exact ⟨h.2, by omega⟩
      refine ⟨c :: js, by rw [hi, hinv.1]; simp, List.nodup_cons.mpr ⟨hcj, jnd⟩, fun d => ?_, fun hh h8 => ?_⟩
      · by_cases hdc : d = c
        · subst hdc; simp [htc, hw]
        · simp [hdc, hm d]
      · have hpc := State.placesInUse_flushBuffer hcf (hh c (List.mem_cons_self ..))
        simp only [hw, reduceCtorEq, if_false, Nat.add_zero] at hpc
        obtain ⟨a, b, -⟩ := hp (fun d hd => by rw [hne d (hnc d hd)]; exact hh d (List.mem_cons_of_mem _ hd)) (by omega)
        exact ⟨a, by omega, fun _ => by omega⟩
    · have hinv : (s.flushBuffer c).inv = s.inv := by
        obtain ⟨-, h⟩ := hfl
        split at h
        · exact h.2
        · split at h
          · exact h.2
          · exact absurd h.1 hw
      refine ⟨js, by rw [hi, hinv], jnd, fun d => ?_, fun hh h8 => ?_⟩
      · by_cases hdc : d = c
        · subst hdc; simp [htc, hw, hcj]
        · simp [hdc, hm d]
      · have hpc := State.placesInUse_flushBuffer hcf (hh c (List.mem_cons_self ..))
        have hle : (s.flushBuffer c).placesInUse ≤ 8 := by
          rw [hpc]
          split
          · rename_i hheld
            obtain ⟨-, h⟩ := hfl
            split at h
            · rw [h.1] at hheld; cases hheld
            · split at h
              · omega
              · rw [h.1] at hheld; cases hheld
          · omega
        obtain ⟨a, b, e⟩ := hp (fun d hd => by rw [hne d (hnc d hd)]; exact hh d (List.mem_cons_of_mem _ hd)) hle
        exact ⟨a, by omega, e⟩

/-! ## CH_ABORT (R70, R91) -/

/-- R54: the end of a channel's walk changes no channel. -/
theorem State.abortWalk_chan (s : State) (c d : Chan) : (s.abortWalk c).chan d = s.chan d := by
  simp only [State.abortWalk, State.freeSlot]
  repeat' split
  all_goals rfl

/-- R80, R91, R133: what the discard of a channel's buffer leaves of the channel, whoever takes the place it frees. -/
theorem State.discardBuffer_chan_self (s : State) (c : Chan) :
    (s.discardBuffer c).chan c =
      { s.chan c with
        buffer :=
          if (s.chan c).buffer.state = .filling ∨ (s.chan c).buffer.state = .pending then Buffer.cleared
          else (s.chan c).buffer } := by
  have g : ∀ u : State, c ∉ u.inv.waiters → (u.grantPlace.chan c) = u.chan c := by
    intro u hu
    simp only [State.grantPlace]
    split
    · rfl
    · rename_i d rest hw
      have : d ≠ c := fun h => hu (by rw [hw, h]; simp)
      split
      · simp [State.chan_setBuffer, this]
      · rfl
  simp only [State.discardBuffer]
  cases hb : (s.chan c).buffer.state <;> simp only []
  · simp
  · split
    · rw [g _ (by simp)]; simp [State.setBuffer]
    · simp [State.setBuffer]
  · split
    · rw [g _ (by simp)]; simp [State.setBuffer]
    · simp [State.setBuffer]
  · simp

end Sys2Proof.Machine
end

