-- ==== Sys2Proof/Laws/RoundRobin.lean ====
section
/-!
SUPPORT. The three round robins (R23, R140): the requester they pick is the one the cyclic order puts first.
-/

namespace Sys2Proof.Machine

/-- In a list ordered by `wait`, the first element that satisfies `p` is one with the least wait. -/
theorem find_eq_some_iff_least {α : Type} {l : List α} {wait : α → Nat} (order : l.Pairwise fun a b => wait a < wait b)
    (all : ∀ a, a ∈ l) (p : α → Bool) (a : α) :
    l.find? p = some a ↔ p a = true ∧ ∀ b, p b = true → wait a ≤ wait b := by
  constructor
  · intro h
    obtain ⟨ha, as, bs, rfl, before⟩ := List.find?_eq_some_iff_append.1 h
    refine ⟨ha, fun b hb => ?_⟩
    rcases List.mem_append.1 (all b) with m | m
    · have := before b m; simp [hb] at this
    · rcases List.mem_cons.1 m with rfl | m
      · exact Nat.le_refl _
      · exact Nat.le_of_lt ((List.pairwise_cons.1 (List.pairwise_append.1 order).2.1).1 b m)
  · rintro ⟨ha, least⟩
    cases hf : l.find? p with
    | none => have := List.find?_eq_none.1 hf a (all a); simp [ha] at this
    | some b =>
      obtain ⟨hb, as, bs, rfl, before⟩ := List.find?_eq_some_iff_append.1 hf
      rcases List.mem_append.1 (all a) with m | m
      · have := before a m; simp [ha] at this
      · rcases List.mem_cons.1 m with rfl | m
        · rfl
        · have lt := (List.pairwise_cons.1 (List.pairwise_append.1 order).2.1).1 a m
          have le := least b hb
          omega

theorem portOrder_pairwise (last : PortUser) :
    (roundFrom portOrder last).Pairwise fun a b => portWait last a < portWait last b := by
  cases last with
  | channel c => revert c; decide
  | commandUnit => decide

theorem mem_portOrder (last u : PortUser) : u ∈ roundFrom portOrder last := by
  cases last with
  | channel c =>
    cases u with
    | channel d => revert c d; decide
    | commandUnit => revert c; decide
  | commandUnit =>
    cases u with
    | channel d => revert d; decide
    | commandUnit => decide

/-- R23: the requester the port picks is the one it serves next. -/
theorem State.portPick_iff (s : State) (u : PortUser) : s.portPick = some u ↔ NextServed s u :=
  find_eq_some_iff_least (portOrder_pairwise _) (mem_portOrder _) s.claims u

theorem allChans_pairwise (last : Chan) :
    (roundFrom allChans last).Pairwise fun a b => chanWait last a < chanWait last b := by
  revert last; decide

theorem mem_allChans_round (last c : Chan) : c ∈ roundFrom allChans last := by
  revert last c; decide

/-- R140: the channel a round-robin class picks is the one it serves next. -/
theorem find_round_iff (stands : Chan → Bool) (last c : Chan) :
    (roundFrom allChans last).find? stands = some c ↔ NextInClass stands last c :=
  find_eq_some_iff_least (allChans_pairwise _) (mem_allChans_round _) stands c

end Sys2Proof.Machine
end

