-- ==== Sys2Proof/Laws/ShadowSteps.lean ====
section
/-!
SUPPORT. What a command can do to the shadow tag store, as one inductive, and the proof that every command does one of
these to it: a claim about the store in every run is a claim about these seven steps.
-/

namespace Sys2Proof.Machine

theorem vector_getElem_set_fin {α : Type} {n : Nat} (v : Vector α n) (i j : Fin n) (x : α) (h : i.val < n) :
    (v.set i.val x h)[j] = if i = j then x else v[j] := by
  simp only [Fin.getElem_fin, Vector.getElem_set, Fin.ext_iff]

/-- Everything that can happen to the store: nothing, a fill recorded, a lookup, a sweep step, the start of a sweep, a
write of the mode and the way mask, power-on. -/
inductive ShadowStep : Shadow → Shadow → Prop
  | same (sh) : ShadowStep sh sh
  | record (sh line way) : ShadowStep sh (sh.record line way)
  | lookup (sh line) : ShadowStep sh (sh.afterLookup line)
  | sweep (sh) : ShadowStep sh sh.sweepStep
  | start (sh) : sh.state = .idle → ShadowStep sh sh.startSweep
  | control (sh mode mask) : ShadowStep sh { sh with mode := mode, wayMask := mask }
  | powerOn (sh epoch) : ShadowStep sh (Shadow.powerOn epoch)

theorem ShadowStep.of_eq {a b : Shadow} (h : b = a) : ShadowStep a b := h ▸ .same a

theorem State.resolveReservation_shadowStep (s : State) (c : Chan) : ShadowStep s.shadow (s.resolveReservation c).shadow := by
  unfold State.resolveReservation
  dsimp only
  split
  · split
    · rw [(State.queueInvalidate_frame _ _ _).2.2.2.2.2.1]; apply ShadowStep.lookup
    · rw [(State.releaseReservation_frame _ _).2.2.2.2.2.1]; apply ShadowStep.lookup
  · exact .same _

theorem State.lineWriteAck_shadowStep (s : State) (c : Chan) (a : Ack) : ShadowStep s.shadow (s.lineWriteAck c a).shadow := by
  unfold State.lineWriteAck
  split
  · cases a
    · simpa using State.resolveReservation_shadowStep s c
    · simpa using State.resolveReservation_shadowStep (s.writeBusError c) c
  · apply ShadowStep.same

theorem State.complete_shadowStep (s : State) (k : Completion) : ShadowStep s.shadow (s.complete k).shadow := by
  unfold State.complete
  split <;> split <;> first
    | (apply ShadowStep.of_eq; simp; done)
    | simpa using State.lineWriteAck_shadowStep (s.freeRecord _) _ _

theorem State.command_shadowStep (s : State) (n) (ch) (p) : ShadowStep s.shadow (s.command n ch p).shadow := by
  unfold State.command
  repeat' split
  all_goals first | (apply ShadowStep.of_eq; simp) | skip
  cases n <;> first | (apply ShadowStep.of_eq; simp [State.dispatchCommand]; done) | simp only [State.dispatchCommand, State.completeCommand_shadow]
  unfold State.clearTags
  split
  next h => apply ShadowStep.start _ h
  · apply ShadowStep.same

theorem State.writeReg_shadowStep (s : State) (r) (v) : ShadowStep s.shadow (s.writeReg r v).shadow := by
  have keep : ∀ t : State, t.shadow = s.shadow → ShadowStep s.shadow t.shadow := fun _ h => .of_eq h
  cases r <;> simp only [State.writeReg] <;> try exact .same _
  · split <;> first | exact .same _ | exact keep _ (by simp)
  · unfold State.writeCommand
    dsimp only
    split
    · apply State.command_shadowStep
    · split <;> exact keep _ (by simp)
  · unfold State.writeShadowControl
    split
    · apply ShadowStep.control
    · exact keep _ (by simp)
  · exact keep _ (by simp)

theorem exec_shadowStep (i : Instr) (s t : State) (h : exec i s = .next t) : ShadowStep s.shadow t.shadow := by
  have key : ∀ f : State → State, (∀ s, ShadowStep s.shadow (f s).shadow) →
      ShadowStep s.shadow (s.unlessReset f).shadow := by
    intro f hf
    unfold State.unlessReset
    split
    · exact .same _
    · exact hf s
  have keep : ∀ f : State → State, (∀ s, (f s).shadow = s.shadow) →
      ShadowStep s.shadow (s.unlessReset f).shadow := fun f hf => key f fun s => .of_eq (hf s)
  cases i
  case resetAssertion =>
    rw [exec_resetAssertion] at h
    cases h
    exact key _ fun s => .powerOn _ _
  case resetRelease wsel1 wsel0 =>
    rw [exec_resetRelease] at h
    cases h
    split <;> exact .same _
  case read c addr size =>
    rw [exec_read] at h
    cases h
    exact .of_eq (by simp)
  case write c addr data =>
    rw [exec_write] at h
    cases h
    exact .of_eq (by simp)
  case sync c =>
    rw [exec_sync] at h
    cases h
    exact .of_eq (by simp)
  case chEnable channel page =>
    rw [exec_chEnable] at h
    cases h
    exact key _ fun s => State.command_shadowStep ..
  case chDisable channel page =>
    rw [exec_chDisable] at h
    cases h
    exact key _ fun s => State.command_shadowStep ..
  case chResume channel page =>
    rw [exec_chResume] at h
    cases h
    exact key _ fun s => State.command_shadowStep ..
  case chAbort channel page =>
    rw [exec_chAbort] at h
    cases h
    exact key _ fun s => State.command_shadowStep ..
  case xlatFlushPage channel page =>
    rw [exec_xlatFlushPage] at h
    cases h
    exact key _ fun s => State.command_shadowStep ..
  case xlatFlushChannel channel page =>
    rw [exec_xlatFlushChannel] at h
    cases h
    exact key _ fun s => State.command_shadowStep ..
  case xlatFlushAll channel page =>
    rw [exec_xlatFlushAll] at h
    cases h
    exact key _ fun s => State.command_shadowStep ..
  case xlatProbe channel page =>
    rw [exec_xlatProbe] at h
    cases h
    exact key _ fun s => State.command_shadowStep ..
  case tagsClear channel page =>
    rw [exec_tagsClear] at h
    cases h
    exact key _ fun s => State.command_shadowStep ..
  case lookupService =>
    rw [exec_lookupService] at h
    cases h
    exact keep _ fun s => by simp
  case commandService =>
    rw [exec_commandService] at h
    cases h
    exact keep _ fun s => by simp
  case busGrant =>
    rw [exec_busGrant] at h
    cases h
    exact keep _ fun s => by simp
  case walkDataReturn id result =>
    rw [exec_walkDataReturn] at h
    cases h
    exact key _ fun s => State.complete_shadowStep ..
  case lineReadDataReturn id result =>
    rw [exec_lineReadDataReturn] at h
    cases h
    exact key _ fun s => State.complete_shadowStep ..
  case lineWriteAcknowledge id ack =>
    rw [exec_lineWriteAcknowledge] at h
    cases h
    exact key _ fun s => State.complete_shadowStep ..
  case killAcknowledge id ack =>
    rw [exec_killAcknowledge] at h
    cases h
    exact key _ fun s => State.complete_shadowStep ..
  case ignoredCompletion completion =>
    rw [exec_ignoredCompletion] at h
    cases h
    exact key _ fun s => State.complete_shadowStep ..
  case observedWrite addr enables =>
    rw [exec_observedWrite] at h
    cases h
    exact keep _ fun s => by simp
  case fill line way =>
    rw [exec_fill] at h
    cases h
    refine key _ fun s => ?_
    unfold State.takeFill
    split
    · split
      · exact .record ..
      · exact .of_eq (by simp)
    · exact .same _
  case sweepStep =>
    rw [exec_sweepStep] at h
    cases h
    refine key _ fun s => ?_
    unfold State.takeSweepStep
    split
    · exact .same _
    · dsimp only
      split
      · simpa using ShadowStep.sweep s.shadow
      · exact .sweep _
  case tick =>
    rw [exec_tick] at h
    cases h
    exact keep _ fun s => by simp
  case idleTimerExpiry c =>
    rw [exec_idleTimerExpiry] at h
    cases h
    exact keep _ fun s => by simp
  case softReset =>
    rw [exec_softReset] at h
    cases h
    exact keep _ fun s => by simp
  case faultPop value =>
    rw [exec_faultPop] at h
    cases h
    exact keep _ fun s => by simp
  case divisorWrite value =>
    rw [exec_divisorWrite] at h
    cases h
    exact keep _ fun s => by simp
  case modeWrite mode =>
    rw [exec_modeWrite] at h
    cases h
    refine key _ fun s => ?_
    unfold State.writeShadowControl
    split
    · exact .control ..
    · exact .of_eq (by simp)
  case wayMaskWrite mask =>
    rw [exec_wayMaskWrite] at h
    cases h
    exact key _ fun s => .control ..
  case descriptorWrite c reg value =>
    rw [exec_descriptorWrite] at h
    cases h
    exact keep _ fun s => by simp
  case globalStatusClear value =>
    rw [exec_globalStatusClear] at h
    cases h
    exact keep _ fun s => by simp
  case intCauseClear value =>
    rw [exec_intCauseClear] at h
    cases h
    exact keep _ fun s => by simp
  case channelOffClear value =>
    rw [exec_channelOffClear] at h
    cases h
    exact keep _ fun s => by simp
  case intMaskWrite value =>
    rw [exec_intMaskWrite] at h
    cases h
    exact keep _ fun s => by simp
  case registerWrite addr lanes value =>
    rw [exec_registerWrite] at h
    cases h
    refine key _ fun s => ?_
    unfold State.windowWrite
    repeat' split
    all_goals first | exact State.writeReg_shadowStep .. | exact .same _

end Sys2Proof.Machine
end

