-- ==== Sys2Proof/Tests/Slice0.lean ====
section
/-!
SUPPORT. Tests: the well-formedness smoke, one or two single steps for each command with results taken from the spec's
examples and tables, and for each statement with hypotheses the named states that meet them (`witness_…`).
-/

namespace Sys2Proof.Machine.Tests

open Sys2Proof Sys2Proof.Machine

/-! ## Well-formedness: each check refuses an ill-formed command -/

theorem test_fill_needs_a_line_address : (Instr.fill 0x00518C54 2).wellFormed = false := by decide
theorem test_fill_of_a_line : (Instr.fill 0x00518C50 2).wellFormed = true := by decide
theorem test_observed_write_needs_a_byte : (Instr.observedWrite 0x1000 [false, false]).wellFormed = false := by decide
theorem test_observed_write_stays_in_memory :
    (Instr.observedWrite 0xFFFFFFFE [true, true, true]).wellFormed = false := by decide
theorem test_observed_write_at_the_top : (Instr.observedWrite 0xFFFFFFFE [true, true]).wellFormed = true := by decide
theorem test_register_write_needs_alignment : (Instr.registerWrite 0xC8000002 0xF 0).wellFormed = false := by decide
theorem test_register_write_needs_a_lane : (Instr.registerWrite 0xC8000000 0 0).wellFormed = false := by decide

/-- No row of the table has bits. -/
theorem test_no_word_spells_a_command : decodeTableWord 32 0x12345678 = none := by decide

/-! ## Small states -/

/-- After reset and the power-on sweep: the store IDLE and empty. -/
def base : State :=
  { State.reset with
    shadow := { sets := Vector.replicate 256 (Vector.replicate 8 none), mode := .track, wayMask := 0xFF, state := .idle
                pointer := 256 } }

/-- The descriptor of the first row of R8's table. -/
def goodDesc : Descriptor :=
  { mapOrigin := 0x00100000, mapLength := 1024, quota := 4, idleTimeout := 16, readAhead := true }

/-- `s` with channel `c` in state `st`, its descriptor legal. -/
def inState (s : State) (c : Chan) (st : ChState) : State :=
  s.modChan c fun ch => { ch with state := st, desc := goodDesc }

/-- Channel 6 ACTIVE. -/
def act : State := inState base 6 .active

/-- `s` with a pending transaction of channel `c`. -/
def withTxn (s : State) (c : Chan) (r : Request) (p : Phase) (tr : Option Translation) : State :=
  s.modChan c fun ch => { ch with txn := some { request := r, phase := p, translation := tr, writeErrorSeen := false } }

/-- A FILLING, PENDING or WRITING buffer that holds bytes 0..3 of line 0x0080_0100 (11.3.5). -/
def someBuffer (st : BufState) (coh : Bool) (res : Reservation) : Buffer :=
  { Buffer.cleared with
    state := st
    line := 0x00800100
    mask := Vector.ofFn fun i => decide (i.val < 4)
    coh := coh
    lineStart := 0x004000
    reservation := res
    timer := if st = .filling then 16 else 0 }

/-- `s` with that buffer at channel `c`. -/
def withBuffer (s : State) (c : Chan) (st : BufState) (coh : Bool) (res : Reservation) : State :=
  s.setBuffer c (someBuffer st coh res)

/-- `s` with translation cache entry 3 for a page of channel 6, at frame 0x200. -/
def withEntry (s : State) (page : Page) (rd wr coh : Bool) : State :=
  { s with
    tc :=
      { s.tc with
        entries := s.tc.entries.set 3 (some { chan := 6, page, xlat := { frame := 0x200, rd, wr, coh } })
        recency := [3, 0, 1, 2, 4, 5, 6, 7, 8, 9, 10, 11, 12, 13, 14, 15] } }

/-- `s` with one outstanding cycle, of number 5. -/
def withCycle (s : State) (r : Requester) : State :=
  { s with bus := { s.bus with cycles := [{ id := 5, requester := r }], nextId := 6 } }

/-- A walk of channel 6's page 9 in slot 0. -/
def someWalk (issued stale discard : Bool) : Walk :=
  { chan := 6, page := 9, entryAddr := 0x00100024, issued, stale, discard }

/-- `s` with that walk in slot 0. -/
def withWalk (s : State) (issued stale discard : Bool) : State :=
  { s with
    walk :=
      { s.walk with
        slots := s.walk.slots.set 0 (some (someWalk issued stale discard))
        requests := if issued then [] else [0] } }

/-- Channel 6's READ of page 9 waits for its walk, which is issued as cycle 5. -/
def walking (stale discard : Bool) : State :=
  withCycle (withWalk (withTxn act 6 (.read 0x004800 .four) .waitWalk none) true stale discard) (.walk 0)

/-- Channel 6's READ waits for its line read, which is issued as cycle 5. -/
def reading (discard : Bool) : State :=
  withCycle
    ((withTxn act 6 (.read 0x004800 .four) .waitRead (some { line := 0x00100000, pos := 0, coh := false })).modChan 6
      fun ch =>
        { ch with lineRead := some { line := 0x00100000, issued := true, stalePending := false, discard } })
    (.read 6)

/-- Channel 6's line write is outstanding as cycle 5. -/
def writing (coh : Bool) (res : Reservation) : State := withCycle (withBuffer act 6 .writing coh res) (.write 6)

/-- An issued entry at the head of the invalidate queue, as cycle 5, of channels 0 and 3. -/
def killing (rest : List InvEntry) : State :=
  withCycle { base with inv := { entries := { line := 0x00401230, chans := [0, 3], issued := true } :: rest, waiters := [] } }
    .kill

/-- The property of the next state a command answers. -/
def after (r : Result) (p : State → Bool) : Bool :=
  match r with
  | .next t => p t
  | .fault _ => false
  | .refused _ => false

/-! ## Single steps -/

/-- R3's example: 0x0020_013C is stored as 0x0020_0100. -/
theorem test_map_origin_write :
    after (exec (.descriptorWrite 2 .mapOrigin 0x0020013C) base) fun t => (t.chan 2).desc.mapOrigin == 0x00200100 := by
  decide
theorem test_descriptor_write_outside_disabled :
    after (exec (.descriptorWrite 6 .mapLength 5) act) fun t =>
      t.sticky.descIgnored && (t.chan 6).desc == goodDesc := by decide

/-- R8's table, second row: a window that ends at the top of host memory is legal. -/
theorem test_enable_at_the_top :
    after (exec (.chEnable 2 0)
      (base.modChan 2 fun ch => { ch with desc := { goodDesc with mapOrigin := 0xFFFF8000, mapLength := 8192, quota := 16 } }))
      fun t => (t.chan 2).state == .active && t.cmd.outcome == .ok := by decide
/-- R8's table, third row. -/
theorem test_enable_past_the_top :
    after (exec (.chEnable 2 0)
      (base.modChan 2 fun ch => { ch with desc := { goodDesc with mapOrigin := 0xFFFF8040, mapLength := 8192 } }))
      fun t => (t.chan 2).state == .disabled && t.cmd.outcome == .badDesc := by decide

theorem test_read_misaligned :
    after (exec (.read 6 0x004802 .four) act) fun t =>
      (t.chan 6).answers == [.fault] &&
        t.log.records == [{ seq := 0, chan := 6, access := .read, addr := 0x004802, cause := .misaligned }] := by decide
theorem test_read_accepted :
    after (exec (.read 6 0x004800 .four) act) fun t =>
      (t.chan 6).txn.any fun x => x.phase == .waitLookup := by decide
theorem test_write_past_the_map :
    after (exec (.write 6 0x200000 (.two 1 2)) act) fun t =>
      (t.chan 6).state == .faulted && (t.log.records.map FaultRecord.cause) == [.outOfMap] := by decide
theorem test_write_stopped_when_disabled :
    after (exec (.write 0 0 (.two 1 2)) base) fun t => (t.chan 0).answers == [.stopped] := by decide
theorem test_sync_done_at_once :
    after (exec (.sync 6) act) fun t => (t.chan 6).answers == [.done []] && (t.chan 6).txn == none := by decide
theorem test_sync_flushes :
    after (exec (.sync 6) (withBuffer act 6 .filling true .none)) fun t =>
      (t.chan 6).buffer.state == .pending && (t.chan 6).buffer.reservation == .held := by decide

theorem test_disable_drains :
    after (exec (.chDisable 6 0) (withBuffer act 6 .filling false .none)) fun t =>
      (t.chan 6).state == .draining && (t.chan 6).buffer.state == .pending := by decide
theorem test_disable_at_once :
    after (exec (.chDisable 6 0) act) fun t =>
      (t.chan 6).state == .disabled && t.ints.channelOff == 0x40 := by decide
theorem test_resume : after (exec (.chResume 6 0) (inState base 6 .faulted)) fun t => (t.chan 6).state == .active := by decide
theorem test_resume_wrong_state : after (exec (.chResume 6 0) act) fun t => t.cmd.outcome == .wrongState := by decide
theorem test_abort_discards :
    after (exec (.chAbort 6 0) (withBuffer act 6 .pending true .held)) fun t =>
      (t.chan 6).buffer == Buffer.cleared && (t.chan 6).state == .disabled && t.placesInUse == 0 := by decide
theorem test_abort_waits_for_its_write :
    after (exec (.chAbort 6 0) (writing true .held)) fun t =>
      (t.chan 6).state == .aborting && (t.chan 6).buffer.state == .writing := by decide

theorem test_flush_page_claims :
    after (exec (.xlatFlushPage 6 9) base) fun t => t.cmd.busy && t.claims .commandUnit := by decide
theorem test_flush_channel_bad_operand :
    after (exec (.xlatFlushChannel 8 0) base) fun t => t.cmd.outcome == .badOperand && t.ints.cmdDone := by decide
theorem test_flush_all_ignores_operands :
    after (exec (.xlatFlushAll 15 0x3FFF) base) fun t => t.cmd.busy := by decide
theorem test_probe_overrun :
    after (exec (.xlatProbe 6 9) { base with cmd := { base.cmd with busy := true } }) fun t => t.sticky.cmdOverrun := by
  decide
theorem test_tags_clear :
    after (exec (.tagsClear 0 0) base) fun t => t.shadow.state == .clearing && t.shadow.pointer == 0 := by decide

theorem test_lookup_miss_takes_slot_0 :
    after (exec .lookupService (withTxn act 6 (.read 0x004800 .four) .waitLookup none)) fun t =>
      t.walk.slots[0] == some (someWalk false false false) && t.walk.requests == [0] := by decide
/-- 11.3.5: a WRITE to page 9, whose entry has WR clear. -/
theorem test_lookup_no_write :
    after (exec .lookupService
      (withBuffer (withEntry (withTxn act 6 (.write 0x004800 (.four 1 2 3 4)) .waitLookup none) 9 true false false) 6 .filling
        false .none)) fun t =>
      (t.chan 6).state == .faulted && (t.chan 6).buffer.state == .pending && (t.chan 6).buffer.reservation == .none &&
        t.log.records == [{ seq := 0, chan := 6, access := .write, addr := 0x004800, cause := .noWrite }] := by decide
theorem test_command_service_probe :
    after (exec .commandService
      { withEntry base 9 true false false with
        cmd := { busy := true, command := some .xlatProbe, channel := 6, page := 9, outcome := .ok } }) fun t =>
      t.tc.probe.hit && t.tc.probe.entry == 3 && !t.cmd.busy := by decide

theorem test_grant_issues_walk :
    after (exec .busGrant (withWalk (withTxn act 6 (.read 0x004800 .four) .waitWalk none) false false false)) fun t =>
      t.walk.slots[0] == some (someWalk true false false) && t.bus.cycles == [{ id := 0, requester := .walk 0 }] := by
  decide
theorem test_grant_write_drops_read_ahead :
    after (exec .busGrant
      ((withBuffer act 6 .pending false .none).modChan 5 fun ch =>
        { ch with state := .active, readAhead := some { line := 0x00800100, data := Vector.replicate 16 0 } })) fun t =>
      (t.chan 6).buffer.state == .writing && (t.chan 5).readAhead == none := by decide

/-- 11.3.3: the word 0x0010_0007 is FRAME 0x00200 with VALID, RD and WR set. -/
theorem test_walk_word_fields :
    mapEntry 0x00100007 = some { frame := 0x200, rd := true, wr := true, coh := false } := by decide
/-- 11.3.3: the data of a stale slot is set aside and its read requested again. -/
theorem test_stale_walk_reads_again :
    after (exec (.walkDataReturn 5 (.word 0x00100007)) (walking true false)) fun t =>
      t.walk.slots[0] == some (someWalk false false false) && t.walk.requests == [0] && t.bus.cycles == [] := by decide
theorem test_walk_not_valid :
    after (exec (.walkDataReturn 5 (.word 0x00100006)) (walking false false)) fun t =>
      (t.chan 6).answers == [.fault] && (t.log.records.map FaultRecord.cause) == [.notValid] := by decide

theorem test_line_read_answers :
    after (exec (.lineReadDataReturn 5 (.line (Vector.ofFn fun i => BitVec.ofNat 8 i.val))) (reading false)) fun t =>
      (t.chan 6).answers == [.done [0, 1, 2, 3]] && (t.chan 6).readAhead.isSome := by decide
theorem test_line_read_bus_error :
    after (exec (.lineReadDataReturn 5 .busError) (reading false)) fun t =>
      (t.chan 6).answers == [.dataError] && (t.log.records.map FaultRecord.cause) == [.readBusErr] := by decide
theorem test_acknowledge_releases :
    after (exec (.lineWriteAcknowledge 5 .ok) (writing true .held)) fun t =>
      (t.chan 6).buffer == Buffer.cleared && t.inv.entries == [] && t.placesInUse == 0 := by decide
/-- 11.3.2: under a match the line is queued with the writer's channel. -/
theorem test_acknowledge_queues :
    after (exec (.lineWriteAcknowledge 5 .ok)
      { writing true .held with shadow := base.shadow.record 0x00800100 2 }) fun t =>
      t.inv.entries == [{ line := 0x00800100, chans := [6], issued := false }] && !t.shadow.holds 0x00800100 := by decide
theorem test_kill_fail :
    after (exec (.killAcknowledge 5 .busError) (killing [])) fun t =>
      t.sticky.killFail && t.ints.coherence && t.inv.entries == [] := by decide
theorem test_kill_completes_sync :
    after (exec (.killAcknowledge 5 .ok) (withTxn (inState (killing []) 3 .active) 3 .sync .waitSync none)) fun t =>
      (t.chan 3).answers == [.done []] := by decide
theorem test_ignored_completion :
    after (exec (.ignoredCompletion (.lineWrite 4 .ok)) (writing true .held)) fun t => t.bus.cycles.length == 1 := by decide

/-- 11.3.3: the host's write of the entry word stale-marks the issued walk and drops a cached translation. -/
theorem test_observed_write_marks_walk :
    after (exec (.observedWrite 0x00100024 [true, true, true, true]) (walking false false)) fun t =>
      t.walk.slots[0] == some (someWalk true true false) := by decide +kernel
theorem test_observed_write_drops_entry :
    after (exec (.observedWrite 0x00100027 [true]) (withEntry act 9 true true true)) fun t =>
      t.tc.entries[3] == none := by decide +kernel

/-- 11.3.4: the fill 0x0012_3030 into way 4 of set 3, unmarked below the pointer. -/
theorem test_fill_below_the_pointer :
    after (exec (.fill 0x00123030 4) { base with shadow := { base.shadow with state := .clearing, pointer := 4 } }) fun t =>
      t.shadow.sets[3][4] == some { tag := 0x00123, fresh := false } := by decide
theorem test_fill_at_the_pointer :
    after (exec (.fill 0x00123030 4) { base with shadow := { base.shadow with state := .clearing, pointer := 3 } }) fun t =>
      t.shadow.sets[3][4] == some { tag := 0x00123, fresh := true } := by decide
theorem test_last_sweep_step :
    after (exec .sweepStep { base with shadow := { base.shadow with state := .clearing, pointer := 255 } }) fun t =>
      t.shadow.state == .idle && t.shadow.pointer == 256 && t.ints.sweepDone := by decide
theorem test_sweep_step_clears :
    after (exec .sweepStep
      { base with shadow := { base.shadow.record 0x00777000 0 with state := .clearing, pointer := 0 } }) fun t =>
      t.shadow.sets[0][0] == none && t.shadow.pointer == 1 := by decide +kernel

theorem test_tick_expires :
    after (exec .tick
      { (act.setBuffer 6 { someBuffer .filling false .none with timer := 1 }) with time := { divisor := 9, count := 3 } })
      fun t => (t.chan 6).buffer.state == .pending && t.time.count == 0 := by decide
theorem test_tick_lowers :
    after (exec .tick { (withBuffer act 6 .filling false .none) with time := { divisor := 9, count := 3 } }) fun t =>
      (t.chan 6).buffer.state == .filling && (t.chan 6).buffer.timer == 15 := by decide
theorem test_idle_timer_expiry :
    after (exec (.idleTimerExpiry 6)
      { (act.setBuffer 6 { someBuffer .filling false .none with timer := 1 }) with time := { divisor := 9, count := 3 } })
      fun t => (t.chan 6).buffer.state == .pending := by decide
theorem test_divisor_write :
    after (exec (.divisorWrite 0xABCDEF12) { base with time := { divisor := 3, count := 2 } }) fun t =>
      t.time == { divisor := 0x12, count := 0 } := by decide

theorem test_soft_reset_ends_at_once :
    after (exec .softReset act) fun t => t.bridge == .running && (t.chan 6).state == .disabled := by decide +kernel
theorem test_soft_reset_waits_for_cycles :
    after (exec .softReset (writing true .held)) fun t =>
      t.bridge == .resetting && (t.chan 6).buffer.state == .writing && (t.chan 6).buffer.reservation == .held := by decide +kernel
theorem test_fault_pop :
    after (exec (.faultPop 0)
      { base with
        log := { records := [{ seq := 0, chan := 6, access := .write, addr := 0x004800, cause := .noWrite }], nextSeq := 1 } })
      fun t => t.log == { records := [], nextSeq := 1 } := by decide
theorem test_mode_write : after (exec (.modeWrite 2) base) fun t => t.shadow.mode == .broadcast := by decide
theorem test_mode_write_of_three :
    after (exec (.modeWrite 3) base) fun t => t.shadow.mode == .track && t.sticky.badWrite := by decide
theorem test_way_mask_write : after (exec (.wayMaskWrite 0xBF) base) fun t => t.shadow.wayMask == 0xBF := by decide
theorem test_status_clear_keeps_causes :
    after (exec (.globalStatusClear 2)
      { base with
        sticky := { base.sticky with killFail := true, fillWay := true }, ints := { base.ints with coherence := true } })
      fun t => !t.sticky.killFail && t.sticky.fillWay && t.ints.coherence := by decide
theorem test_cause_clear_ignores_channel_off :
    after (exec (.intCauseClear 0x3F) { base with ints := { base.ints with channelOff := 4, cmdDone := true } }) fun t =>
      t.ints.channelOff == 4 && !t.ints.cmdDone := by decide
theorem test_channel_off_clear :
    after (exec (.channelOffClear 4) { base with ints := { base.ints with channelOff := 0x0C } }) fun t =>
      t.ints.channelOff == 8 := by decide
theorem test_mask_asserts_the_line :
    after (exec (.intMaskWrite 8) { base with ints := { base.ints with cmdDone := true } }) fun t => t.intAsserted := by
  decide
theorem test_register_write_of_part_of_a_word :
    after (exec (.registerWrite 0xC8000008 0x3 5) base) fun t => t.sticky.badWrite && t.time.divisor == 0 := by decide
theorem test_register_write_command :
    after (exec (.registerWrite 0xC8000020 0xF 0x00000061) (base.modChan 6 fun ch => { ch with desc := goodDesc })) fun t =>
      (t.chan 6).state == .active := by decide
theorem test_reset_assertion :
    after (exec .resetAssertion (withTxn act 6 .sync .waitSync none)) fun t =>
      t.resetHeld && (t.chan 6).state == .disabled && (t.chan 6).answers == [.stopped] := by decide +kernel
theorem test_reset_release_straps :
    after (exec (.resetRelease true true) { base with resetHeld := true }) fun t => t.windowBase == 0xC800C000 := by decide
/-- R178 and 10.8: IDENT. -/
theorem test_ident : base.windowRead 0xC8000000 0xF = some 0x1D420801 := by decide

/-! ## Witnesses: states that meet the hypotheses of the statements -/

theorem portFree_act : PortFree act 6 := ⟨by decide, by decide, by decide⟩
theorem ready_base : CommandReady base := ⟨by decide, by decide, by decide⟩
theorem ready_act : CommandReady act := ⟨by decide, by decide, by decide⟩

/-- One check for each channel of what SettledLaw says. -/
def settledCheck (s : State) : Bool :=
  allChans.all fun c =>
    ((s.chan c).txn.all fun t => t.request != .sync || !s.syncReady c) &&
      ((s.chan c).state != .draining || !s.drainReady c) && ((s.chan c).state != .aborting || !s.abortReady c)

theorem settled_of_check {s : State} (h : settledCheck s = true) : SettledLaw s := by
  intro c
  have hc := List.all_eq_true.1 h c (by simp [allChans])
  simp only [Bool.and_eq_true, Bool.or_eq_true] at hc
  refine ⟨fun t ht hs => ?_, fun hd => ?_, fun ha => ?_⟩
  · have := hc.1.1; simpa [ht, hs] using this
  · have := hc.1.2; simpa [hd] using this
  · have := hc.2; simpa [ha] using this

/-- One check for each pair of entries of what OneTranslationLaw says. -/
def oneTranslationCheck (s : State) : Bool :=
  (List.finRange 16).all fun i => (List.finRange 16).all fun j =>
    i == j || !(s.tc.entries[i].any fun a => s.tc.entries[j].any fun b => a.chan == b.chan && a.page == b.page)

theorem oneTranslation_of_check {s : State} (h : oneTranslationCheck s = true) : OneTranslationLaw s := by
  intro i j a b hi hj hc hp
  have := List.all_eq_true.1 (List.all_eq_true.1 h i (by simp)) j (by simp)
  simpa [hi, hj, hc, hp] using this

/-! ### The machine as a whole, and `RESET#` -/

theorem witness_stepRunsFrontCommand : ({ base with pending := [.tick, .softReset] } : State).pending = .tick :: [.softReset] := rfl
theorem witness_stepOnEmptyQueue_reset :
    let s : State := { base with resetHeld := true }
    s.pending = [] ∧ s.resetHeld = true := ⟨rfl, rfl⟩
theorem witness_stepOnEmptyQueue_held :
    let s := act.modChan 6 fun ch => { ch with held := [.sync] }
    s.pending = [] ∧ s.resetHeld = false ∧ (s.chan 6).txn = none ∧ (s.chan 6).held = .sync :: [] ∧
      ∀ d : Chan, d < 6 → (s.chan d).txn ≠ none ∨ (s.chan d).held = [] := by decide
theorem witness_stepOnEmptyQueue_period :
    base.pending = [] ∧ base.resetHeld = false ∧ ∀ c, (base.chan c).txn ≠ none ∨ (base.chan c).held = [] := by decide
theorem witness_nothingHappensInReset :
    ({ base with resetHeld := true } : State).resetHeld = true ∧
      ∀ a b, Instr.read 6 0 .two ≠ .resetRelease a b := by decide
theorem witness_oneAnswerForEachRequest : ∃ t, step { act with pending := [.read 6 0x004800 .four] } = .next t := ⟨_, rfl⟩
theorem witness_resetAssertion : act.resetHeld = false := by decide
theorem witness_resetRelease : ({ base with resetHeld := true } : State).resetHeld = true := rfl

/-! ### Ports -/

theorem witness_requestNotTaken_stopped : PortFree base 6 ∧ (base.chan 6).state ≠ .active :=
  ⟨⟨by decide, by decide, by decide⟩, by decide⟩
theorem witness_requestNotTaken_resetting :
    PortFree { base with bridge := .resetting } 6 ∧ ({ base with bridge := .resetting } : State).bridge = .resetting :=
  ⟨⟨by decide, by decide, by decide⟩, rfl⟩
theorem witness_requestNotTaken_held :
    (withTxn act 6 .sync .waitSync none).resetHeld = false ∧ ((withTxn act 6 .sync .waitSync none).chan 6).txn ≠ none := by
  decide
theorem witness_accessTaken_misaligned :
    PortFree act 6 ∧ (act.chan 6).state = .active ∧ act.bridge = .running ∧
      (Request.read 0x004802 .four).access? = some (.read, 0x004802, .four) ∧ (0x004802 : ChanAddr).toNat % Size.four.bytes ≠ 0 :=
  ⟨portFree_act, by decide, by decide, rfl, by decide⟩
/-- The first page past a map of 1024 entries. -/
theorem witness_accessTaken_outOfMap :
    PortFree act 6 ∧ (act.chan 6).state = .active ∧ act.bridge = .running ∧
      (Request.write 0x200000 (.two 1 2)).access? = some (.write, 0x200000, .two) ∧
      (0x200000 : ChanAddr).toNat % Size.two.bytes = 0 ∧
      (act.chan 6).desc.mapLength.toNat ≤ (0x200000 : ChanAddr).toNat / 2048 :=
  ⟨portFree_act, by decide, by decide, rfl, by decide, by decide⟩
/-- The last halfword of the last page of that map. -/
theorem witness_accessTaken_accepted :
    PortFree act 6 ∧ (act.chan 6).state = .active ∧ act.bridge = .running ∧
      (Request.read 0x1FFFFE .two).access? = some (.read, 0x1FFFFE, .two) ∧
      (0x1FFFFE : ChanAddr).toNat % Size.two.bytes = 0 ∧
      (0x1FFFFE : ChanAddr).toNat / 2048 < (act.chan 6).desc.mapLength.toNat :=
  ⟨portFree_act, by decide, by decide, rfl, by decide, by decide⟩
theorem witness_syncTaken_done :
    PortFree act 6 ∧ (act.chan 6).state = .active ∧ act.bridge = .running ∧ (act.chan 6).buffer.state = .empty ∧
      (act.chan 6).buffer.reservation ≠ .held ∧ ∀ e ∈ act.inv.entries, 6 ∉ e.chans :=
  ⟨portFree_act, by decide, by decide, by decide, by decide, by decide⟩
theorem witness_syncTaken_waits :
    let s := withBuffer act 6 .filling true .none
    PortFree s 6 ∧ (s.chan 6).state = .active ∧ s.bridge = .running ∧ (s.chan 6).buffer.state ≠ .empty :=
  ⟨⟨by decide, by decide, by decide⟩, by decide, by decide, by decide⟩
theorem witness_syncTaken_entry :
    let s : State := { act with inv := { act.inv with entries := [{ line := 0, chans := [6], issued := false }] } }
    PortFree s 6 ∧ (s.chan 6).state = .active ∧ s.bridge = .running ∧ ∃ e ∈ s.inv.entries, 6 ∈ e.chans :=
  ⟨⟨by decide, by decide, by decide⟩, by decide, by decide, ⟨_, .head _, by decide⟩⟩

/-! ### Commands -/

theorem witness_commandRefused_busy :
    let s : State := { base with cmd := { base.cmd with busy := true } }
    s.resetHeld = false ∧ s.cmd.busy = true := by decide
theorem witness_commandRefused_resetting :
    let s : State := { base with bridge := .resetting }
    s.resetHeld = false ∧ s.cmd.busy = false ∧ s.bridge = .resetting := by decide
theorem witness_commandRefused_channel :
    base.resetHeld = false ∧ base.cmd.busy = false ∧ base.bridge = .running ∧
      8 ≤ (8 : BitVec 4).toNat ∧ CommandName.chEnable ≠ .xlatFlushAll ∧ CommandName.chEnable ≠ .tagsClear := by decide
theorem witness_commandRefused_page :
    base.resetHeld = false ∧ base.cmd.busy = false ∧ base.bridge = .running ∧ 8192 ≤ (8192 : BitVec 14).toNat := by decide
theorem witness_chEnable_legal :
    let s := base.modChan 7 fun ch => { ch with desc := { goodDesc with mapOrigin := 0xFFFF8000, mapLength := 8192, quota := 16 } }
    CommandReady s ∧ (7 : BitVec 4).toNat = (7 : Chan).val ∧ (s.chan 7).state = .disabled ∧
      1 ≤ (s.chan 7).desc.mapLength.toNat ∧ (s.chan 7).desc.mapLength.toNat ≤ 8192 ∧
      1 ≤ (s.chan 7).desc.quota.toNat ∧ (s.chan 7).desc.quota.toNat ≤ 16 ∧
      (s.chan 7).desc.mapOrigin.toNat + 4 * (s.chan 7).desc.mapLength.toNat ≤ 2 ^ 32 :=
  ⟨⟨by decide, by decide, by decide⟩, by decide, by decide, by decide, by decide, by decide, by decide, by decide⟩
theorem witness_chEnable_illegal :
    CommandReady base ∧ (0 : BitVec 4).toNat = (0 : Chan).val ∧ (base.chan 0).state = .disabled ∧
      ¬ 1 ≤ (base.chan 0).desc.mapLength.toNat := ⟨ready_base, by decide, by decide, by decide⟩
theorem witness_chEnable_wrongState :
    CommandReady act ∧ (6 : BitVec 4).toNat = (6 : Chan).val ∧ (act.chan 6).state ≠ .disabled ∧
      (act.chan 6).state ≠ .faulted := ⟨ready_act, by decide, by decide, by decide⟩
theorem witness_chResume :
    let s := inState base 6 .faulted
    CommandReady s ∧ (6 : BitVec 4).toNat = (6 : Chan).val ∧ (s.chan 6).state = .faulted :=
  ⟨⟨by decide, by decide, by decide⟩, by decide, by decide⟩
theorem witness_chDisable_at_once :
    CommandReady act ∧ (6 : BitVec 4).toNat = (6 : Chan).val ∧ SettledLaw act ∧ (act.chan 6).state = .active ∧
      act.drainReady 6 = true := ⟨ready_act, by decide, settled_of_check (by decide), by decide, by decide⟩
theorem witness_chDisable_drains :
    let s := withBuffer act 6 .filling true .none
    CommandReady s ∧ (6 : BitVec 4).toNat = (6 : Chan).val ∧ SettledLaw s ∧ (s.chan 6).state = .active ∧
      s.drainReady 6 = false :=
  ⟨⟨by decide, by decide, by decide⟩, by decide, settled_of_check (by decide), by decide, by decide⟩
theorem witness_chDisable_wrongState :
    CommandReady base ∧ (6 : BitVec 4).toNat = (6 : Chan).val ∧ SettledLaw base ∧ (base.chan 6).state ≠ .active ∧
      (base.chan 6).state ≠ .faulted := ⟨ready_base, by decide, settled_of_check (by decide), by decide, by decide⟩
theorem witness_chAbort :
    CommandReady (walking false false) ∧ (6 : BitVec 4).toNat = (6 : Chan).val ∧ ((walking false false).chan 6).state = .active :=
  ⟨⟨by decide, by decide, by decide⟩, by decide, by decide⟩
/-- Its walk's slot is not issued, both slots are busy, and channel 2 waits at the head of the queue. -/
theorem witness_chAbort_unissuedSlot :
    let s : State :=
      { withTxn act 6 (.read 0x004800 .four) .waitWalk none with
        walk :=
          { slots := (Vector.replicate 2 none).set 0 (some (someWalk false false false)) |>.set 1
              (some { someWalk true false false with chan := 1 })
            requests := [0]
            queue := [{ chan := 2, page := 5 }] } }
    CommandReady s ∧ (6 : BitVec 4).toNat = (6 : Chan).val ∧ (s.chan 6).state = .active ∧
      (s.chan 6).txn.any (fun x => x.phase == .waitWalk) = true ∧
      s.walk.slots[(0 : Fin 2)] = some (someWalk false false false) ∧ (someWalk false false false).chan = 6 ∧
      (someWalk false false false).issued = false ∧ s.walk.slots[(1 : Fin 2)].all (fun v => v.chan != 6) = true ∧
      s.walk.queue ≠ [] :=
  ⟨⟨by decide, by decide, by decide⟩, by decide, by decide, by decide, by decide, by decide, by decide, by decide, by decide⟩
/-- A PENDING buffer with a place, and a request held at the port. -/
theorem witness_chAbort_discards :
    let s := (withBuffer act 6 .pending true .held).modChan 6 fun ch => { ch with held := [.sync] }
    CommandReady s ∧ (6 : BitVec 4).toNat = (6 : Chan).val ∧ (s.chan 6).state = .active ∧
      (s.chan 6).buffer.state = .pending ∧ (s.chan 6).buffer.reservation = .held ∧ (s.chan 6).held ≠ [] :=
  ⟨⟨by decide, by decide, by decide⟩, by decide, by decide, by decide, by decide, by decide⟩
theorem witness_chAbort_disabled :
    CommandReady base ∧ (6 : BitVec 4).toNat = (6 : Chan).val ∧ (base.chan 6).state = .disabled :=
  ⟨ready_base, by decide, by decide⟩
theorem witness_xlatClaim : CommandReady base ∧ (7 : BitVec 4).toNat < 8 ∧ (8191 : BitVec 14).toNat < 8192 :=
  ⟨ready_base, by decide, by decide⟩
theorem witness_tagsClear_idle : CommandReady base ∧ base.shadow.state = .idle := ⟨ready_base, by decide⟩
theorem witness_tagsClear_clearing :
    let s : State := { base with shadow := { base.shadow with state := .clearing, pointer := 0 } }
    CommandReady s ∧ s.shadow.state = .clearing := ⟨⟨by decide, by decide, by decide⟩, rfl⟩

/-! ### The TC port -/

/-- Channel 6's READ of page 9 waits for its lookup. -/
def looking : State := withTxn act 6 (.read 0x004800 .four) .waitLookup none

/-- Channel 6's WRITE to page 9 waits for its lookup. -/
def lookingWrite : State := withTxn act 6 (.write 0x004800 (.four 1 2 3 4)) .waitLookup none

/-- The command unit's claim stands, for command `n` at channel 6 and page 9. -/
def commanded (s : State) (n : CommandName) : State :=
  { s with cmd := { busy := true, command := some n, channel := 6, page := 9, outcome := .ok } }

theorem nextServed_looking : NextServed looking (.channel 6) := (State.portPick_iff _ _).1 (by decide)

theorem witness_portServesInTurn_none : base.resetHeld = false ∧ ∀ u, base.claims u = false := by
  refine ⟨by decide, fun u => ?_⟩
  cases u with
  | channel c => revert c; decide
  | commandUnit => decide
theorem witness_portServesInTurn_channel : looking.resetHeld = false ∧ NextServed looking (.channel 6) :=
  ⟨by decide, nextServed_looking⟩
theorem witness_portServesInTurn_command :
    (commanded base .xlatProbe).resetHeld = false ∧ NextServed (commanded base .xlatProbe) .commandUnit :=
  ⟨by decide, (State.portPick_iff _ _).1 (by decide)⟩
theorem witness_portServesInTurn_passedOver :
    let s := commanded looking .xlatProbe
    NextServed s (.channel 6) ∧ s.claims .commandUnit = true ∧ PortUser.commandUnit ≠ .channel 6 :=
  ⟨(State.portPick_iff _ _).1 (by decide), by decide, by decide⟩
theorem witness_lookupMiss :
    looking.resetHeld = false ∧ NextServed looking (.channel 6) ∧
      (looking.chan 6).txn =
        some { request := .read 0x004800 .four, phase := .waitLookup, translation := none, writeErrorSeen := false } ∧
      (Request.read 0x004800 .four).access? = some (.read, 0x004800, .four) ∧
      ∀ i : Fin 16, ∀ e, looking.tc.entries[i] = some e → ¬ (e.chan = 6 ∧ e.page = pageOf 0x004800) := by
  refine ⟨by decide, nextServed_looking, by decide, rfl, fun i e h => ?_⟩
  have : ∀ i : Fin 16, looking.tc.entries[i] = none := by decide
  rw [this i] at h
  cases h
theorem witness_lookupHitRefused :
    let s := withEntry lookingWrite 9 true false false
    s.resetHeld = false ∧ NextServed s (.channel 6) ∧ OneTranslationLaw s ∧ (s.chan 6).state = .active ∧
      (s.chan 6).txn =
        some { request := .write 0x004800 (.four 1 2 3 4), phase := .waitLookup, translation := none, writeErrorSeen := false } ∧
      s.tc.entries[3] = some { chan := 6, page := pageOf 0x004800, xlat := { frame := 0x200, rd := true, wr := false, coh := false } } :=
  ⟨by decide, (State.portPick_iff _ _).1 (by decide), oneTranslation_of_check (by decide), by decide, by decide, by decide⟩
theorem witness_lookupHitRefused_draining :
    let s := inState (withEntry lookingWrite 9 true false false) 6 .draining
    s.resetHeld = false ∧ NextServed s (.channel 6) ∧ OneTranslationLaw s ∧ (s.chan 6).state = .draining ∧
      (s.chan 6).txn =
        some { request := .write 0x004800 (.four 1 2 3 4), phase := .waitLookup, translation := none, writeErrorSeen := false } ∧
      s.tc.entries[3] = some { chan := 6, page := pageOf 0x004800, xlat := { frame := 0x200, rd := true, wr := false, coh := false } } :=
  ⟨by decide, (State.portPick_iff _ _).1 (by decide), oneTranslation_of_check (by decide), by decide, by decide, by decide⟩
/-- The READ's host line is the one channel 6's FILLING buffer holds. -/
theorem witness_lookupHitRead_ownBuffer :
    let s := (withEntry looking 9 true false false).setBuffer 6 { someBuffer .filling true .none with line := 0x00100000 }
    s.resetHeld = false ∧ NextServed s (.channel 6) ∧ OneTranslationLaw s ∧ (s.chan 6).state = .active ∧
      (s.chan 6).txn =
        some { request := .read 0x004800 .four, phase := .waitLookup, translation := none, writeErrorSeen := false } ∧
      s.tc.entries[3] = some { chan := 6, page := pageOf 0x004800, xlat := { frame := 0x200, rd := true, wr := false, coh := false } } ∧
      (s.chan 6).buffer.state ≠ .empty ∧
      (s.chan 6).buffer.line = (boundTo { frame := 0x200, rd := true, wr := false, coh := false } 0x004800).line :=
  ⟨by decide, (State.portPick_iff _ _).1 (by decide), oneTranslation_of_check (by decide), by decide, by decide, by decide,
    by decide, by decide⟩
/-- A carried READ in FAULTED, and one in DRAINING, whose line no buffer holds. -/
theorem witness_lookupHitRead_outsideActive :
    ∀ st ∈ [ChState.faulted, .draining],
      let s := inState (withEntry looking 9 true false false) 6 st
      s.resetHeld = false ∧ NextServed s (.channel 6) ∧ OneTranslationLaw s ∧ (s.chan 6).state = st ∧
        (s.chan 6).txn =
          some { request := .read 0x004800 .four, phase := .waitLookup, translation := none, writeErrorSeen := false } ∧
        s.tc.entries[3] = some { chan := 6, page := pageOf 0x004800, xlat := { frame := 0x200, rd := true, wr := false, coh := false } } := by
  intro st h
  simp only [List.mem_cons, List.not_mem_nil, or_false] at h
  rcases h with rfl | rfl <;>
    exact ⟨by decide, (State.portPick_iff _ _).1 (by decide), oneTranslation_of_check (by decide), by decide, by decide, by decide⟩
theorem witness_lookupHitRead_requests :
    let s := withEntry looking 9 true false false
    s.resetHeld = false ∧ NextServed s (.channel 6) ∧ OneTranslationLaw s ∧ (s.chan 6).state = .active ∧
      (s.chan 6).txn =
        some { request := .read 0x004800 .four, phase := .waitLookup, translation := none, writeErrorSeen := false } ∧
      s.tc.entries[3] = some { chan := 6, page := pageOf 0x004800, xlat := { frame := 0x200, rd := true, wr := false, coh := false } } ∧
      (s.chan 6).buffer.state = .empty ∧ (s.chan 6).readAhead = none :=
  ⟨by decide, (State.portPick_iff _ _).1 (by decide), oneTranslation_of_check (by decide), by decide, by decide, by decide,
    by decide, by decide⟩
theorem witness_lookupHitRead_answers :
    let s := (withEntry looking 9 true false false).modChan 6 fun ch =>
      { ch with readAhead := some { line := 0x00100000, data := Vector.replicate 16 0 } }
    s.resetHeld = false ∧ NextServed s (.channel 6) ∧ OneTranslationLaw s ∧ (s.chan 6).state = .active ∧
      (s.chan 6).readAhead =
        some { line := lineOf (BitVec.ofNat 32 ((0x200 : Frame).toNat * 2048 + (0x004800 : ChanAddr).toNat % 2048))
               data := Vector.replicate 16 0 } ∧
      (s.chan 6).desc.readAhead = true :=
  ⟨by decide, (State.portPick_iff _ _).1 (by decide), oneTranslation_of_check (by decide), by decide, by decide, by decide⟩
theorem witness_lookupHitWrite :
    let s := withEntry lookingWrite 9 true true true
    s.resetHeld = false ∧ NextServed s (.channel 6) ∧ OneTranslationLaw s ∧ (s.chan 6).state = .active ∧
      (s.chan 6).txn =
        some { request := .write 0x004800 (.four 1 2 3 4), phase := .waitLookup, translation := none, writeErrorSeen := false } ∧
      s.tc.entries[3] = some { chan := 6, page := pageOf 0x004800, xlat := { frame := 0x200, rd := true, wr := true, coh := true } } ∧
      (s.chan 6).buffer.state = .empty ∧ (0x004800 : ChanAddr).toNat % (WriteData.four 1 2 3 4).size.bytes = 0 :=
  ⟨by decide, (State.portPick_iff _ _).1 (by decide), oneTranslation_of_check (by decide), by decide, by decide, by decide,
    by decide, by decide⟩
/-- The buffer is FILLING with another line, and, in DRAINING, WRITING. -/
theorem witness_lookupHitWrite_waits :
    let x : Transaction :=
      { request := .write 0x004800 (.four 1 2 3 4), phase := .waitLookup, translation := none, writeErrorSeen := false }
    let e : TcEntry := { chan := 6, page := pageOf 0x004800, xlat := { frame := 0x200, rd := true, wr := true, coh := true } }
    let s := withBuffer (withEntry lookingWrite 9 true true true) 6 .filling true .none
    let d := withBuffer (inState (withEntry lookingWrite 9 true true true) 6 .draining) 6 .writing true .held
    (s.resetHeld = false ∧ NextServed s (.channel 6) ∧ OneTranslationLaw s ∧ (s.chan 6).txn = some x ∧
        s.tc.entries[3] = some e ∧ (s.chan 6).buffer.state = .filling ∧ (s.chan 6).buffer.line ≠ (boundTo e.xlat 0x004800).line) ∧
      d.resetHeld = false ∧ NextServed d (.channel 6) ∧ OneTranslationLaw d ∧ (d.chan 6).txn = some x ∧
        d.tc.entries[3] = some e ∧ (d.chan 6).buffer.state = .writing :=
  ⟨⟨by decide, (State.portPick_iff _ _).1 (by decide), oneTranslation_of_check (by decide), by decide, by decide, by decide,
      by decide⟩,
    by decide, (State.portPick_iff _ _).1 (by decide), oneTranslation_of_check (by decide), by decide, by decide, by decide⟩
theorem witness_writeReachesBuffer :
    ((act.chan 6).buffer.state = .empty) ∧ ((withBuffer act 6 .filling true .none).chan 6).buffer.line = 0x00800100 ∧
      ((withBuffer act 6 .pending true .held).chan 6).buffer.state = .pending := by decide
theorem witness_flushServed :
    let s := commanded (withEntry base 9 true true true) .xlatFlushPage
    s.resetHeld = false ∧ NextServed s .commandUnit ∧ s.cmd.command = some .xlatFlushPage ∧ s.cmd.channel.toNat < 8 ∧
      s.cmd.page.toNat < 8192 :=
  ⟨by decide, (State.portPick_iff _ _).1 (by decide), by decide, by decide, by decide⟩
/-- XLAT_FLUSH_ALL does not use its operands: here they name no channel and no page. -/
theorem witness_flushServed_all :
    let s : State := { base with cmd := { busy := true, command := some .xlatFlushAll, channel := 9, page := 8192, outcome := .ok } }
    s.resetHeld = false ∧ NextServed s .commandUnit ∧ s.cmd.command = some .xlatFlushAll ∧ ¬ s.cmd.channel.toNat < 8 ∧
      ¬ s.cmd.page.toNat < 8192 :=
  ⟨by decide, (State.portPick_iff _ _).1 (by decide), by decide, by decide, by decide⟩
theorem witness_probeServed :
    let s := commanded (withEntry base 9 true true true) .xlatProbe
    s.resetHeld = false ∧ NextServed s .commandUnit ∧ s.cmd.command = some .xlatProbe ∧ s.cmd.channel.toNat < 8 ∧
      s.cmd.page.toNat < 8192 ∧ OneTranslationLaw s ∧
      s.tc.entries[3] = some { chan := 6, page := 9, xlat := { frame := 0x200, rd := true, wr := true, coh := true } } :=
  ⟨by decide, (State.portPick_iff _ _).1 (by decide), by decide, by decide, by decide, oneTranslation_of_check (by decide),
    by decide⟩
theorem witness_probeServed_miss :
    let s := commanded base .xlatProbe
    s.resetHeld = false ∧ NextServed s .commandUnit ∧ s.cmd.command = some .xlatProbe ∧ s.cmd.channel.toNat < 8 ∧
      s.cmd.page.toNat < 8192 ∧ OneTranslationLaw s ∧ ∀ i : Fin 16, s.tc.entries[i] = none :=
  ⟨by decide, (State.portPick_iff _ _).1 (by decide), by decide, by decide, by decide, oneTranslation_of_check (by decide),
    by decide⟩
theorem witness_installPlace :
    let s := withEntry base 9 true true true
    OneTranslationLaw s ∧ RecencyLaw s ∧ 1 ≤ 4 := ⟨oneTranslation_of_check (by decide), by unfold RecencyLaw; decide, by decide⟩

/-! ### Walks and line reads -/

theorem witness_walkReturns :
    let s := walking false false
    s.resetHeld = false ∧ s.bridge = .running ∧ s.bus.recordOf 5 = some { id := 5, requester := .walk 0 } ∧
      s.walk.slots[(0 : Fin 2)] = some (someWalk true false false) ∧ (s.chan (someWalk true false false).chan).state = .active ∧
      (s.chan 6).txn =
        some { request := .read 0x004800 .four, phase := .waitWalk, translation := none, writeErrorSeen := false } ∧
      (0x00100007 : Word).getLsbD 0 = true ∧ (0x00100006 : Word).getLsbD 0 = false := by decide
theorem witness_walkReturns_draining :
    let s := inState (walking false false) 6 .draining
    s.resetHeld = false ∧ s.bridge = .running ∧ s.bus.recordOf 5 = some { id := 5, requester := .walk 0 } ∧
      s.walk.slots[(0 : Fin 2)] = some (someWalk true false false) ∧ (s.chan 6).state = .draining ∧
      (s.chan 6).txn =
        some { request := .read 0x004800 .four, phase := .waitWalk, translation := none, writeErrorSeen := false } := by decide
theorem witness_walkReReads :
    let s := walking true false
    s.resetHeld = false ∧ s.bridge = .running ∧ s.bus.recordOf 5 = some { id := 5, requester := .walk 0 } ∧
      s.walk.slots[(0 : Fin 2)] = some (someWalk true true false) := by decide
theorem witness_discardedWalk :
    let s := inState (walking false true) 6 .aborting
    s.resetHeld = false ∧ SettledLaw s ∧ (s.chan 6).state ≠ .draining ∧
      s.bus.recordOf 5 = some { id := 5, requester := .walk 0 } ∧
      s.walk.slots[(0 : Fin 2)] = some (someWalk true false true) :=
  ⟨by decide, settled_of_check (by decide), by decide, by decide, by decide⟩
theorem witness_discardedRead :
    let s := inState (reading true) 6 .aborting
    s.resetHeld = false ∧ SettledLaw s ∧ (s.chan 6).state ≠ .draining ∧
      s.bus.recordOf 5 = some { id := 5, requester := .read 6 } ∧
      (s.chan 6).lineRead = some { line := 0x00100000, issued := true, stalePending := false, discard := true } :=
  ⟨by decide, settled_of_check (by decide), by decide, by decide, by decide⟩
theorem witness_lineReadReturns :
    let s := reading false
    s.resetHeld = false ∧ s.bridge = .running ∧ s.bus.recordOf 5 = some { id := 5, requester := .read 6 } ∧
      (s.chan 6).lineRead = some { line := 0x00100000, issued := true, stalePending := false, discard := false } ∧
      (s.chan 6).state = .active ∧
      (s.chan 6).txn =
        some { request := .read 0x004800 .four, phase := .waitRead, translation := some { line := 0x00100000, pos := 0, coh := false }
               writeErrorSeen := false } := by decide
theorem witness_lineReadReturns_draining :
    let s := inState (reading false) 6 .draining
    s.resetHeld = false ∧ s.bridge = .running ∧ s.bus.recordOf 5 = some { id := 5, requester := .read 6 } ∧
      (s.chan 6).lineRead = some { line := 0x00100000, issued := true, stalePending := false, discard := false } ∧
      (s.chan 6).state = .draining ∧
      (s.chan 6).txn =
        some { request := .read 0x004800 .four, phase := .waitRead, translation := some { line := 0x00100000, pos := 0, coh := false }
               writeErrorSeen := false } := by decide

/-! ### Acknowledges -/

theorem witness_ackEmpties :
    let s := writing false .none
    s.resetHeld = false ∧ s.bridge = .running ∧ s.bus.recordOf 5 = some { id := 5, requester := .write 6 } ∧
      (s.chan 6).buffer.state = .writing ∧ (s.chan 6).buffer.reservation ≠ .held ∧ (s.chan 6).state = .active ∧
      (s.chan 6).txn = none := by decide
theorem witness_ackRestarts_write :
    let s := withTxn (writing false .none) 6 (.write 0x004810 (.two 1 2)) .waitBuffer (some { line := 0x00100010, pos := 0, coh := true })
    s.resetHeld = false ∧ s.bridge = .running ∧ s.bus.recordOf 5 = some { id := 5, requester := .write 6 } ∧
      (s.chan 6).buffer.state = .writing ∧ (s.chan 6).buffer.reservation ≠ .held ∧ (s.chan 6).state = .active ∧
      (s.chan 6).txn.any (fun x => x.phase == .waitBuffer && x.translation.isSome) = true := by decide
theorem witness_ackRestarts_read :
    let s := withTxn (writing false .none) 6 (.read 0x004800 .two) .waitBuffer (some { line := 0x00800100, pos := 0, coh := false })
    s.resetHeld = false ∧ s.bridge = .running ∧ s.bus.recordOf 5 = some { id := 5, requester := .write 6 } ∧
      (s.chan 6).buffer.state = .writing ∧ (s.chan 6).buffer.reservation ≠ .held ∧ (s.chan 6).state = .active ∧
      (s.chan 6).txn.any (fun x => x.phase == .waitBuffer && x.translation.isSome) = true ∧ (s.chan 6).readAhead = none := by
  decide
/-- Acknowledges in ACTIVE, DRAINING, ABORTING and DISABLED, of a buffer that holds a reservation. -/
theorem witness_acknowledged :
    ∀ st ∈ [ChState.active, .draining, .aborting, .disabled],
      let s := inState (writing true .held) 6 st
      s.resetHeld = false ∧ PlacesLaw s ∧ s.bus.recordOf 5 = some { id := 5, requester := .write 6 } ∧
        (s.chan 6).buffer.state = .writing ∧ (s.chan 6).state = st := by unfold PlacesLaw; decide
theorem witness_ackResolves_released :
    let s := writing true .held
    s.resetHeld = false ∧ s.bus.recordOf 5 = some { id := 5, requester := .write 6 } ∧ (s.chan 6).buffer.state = .writing ∧
      (s.chan 6).buffer.reservation = .held ∧ ¬ LookupQueues s (s.chan 6).buffer.line := by
  refine ⟨by decide, by decide, by decide, by decide, ?_⟩
  rintro (h | ⟨-, ⟨w, e, -, h, -⟩ | ⟨e, h, -⟩⟩)
  · revert h; decide
  · have : ∀ w : Way, (writing true .held).shadow.sets[setOf ((writing true .held).chan 6).buffer.line][w] = none := by
      decide
    rw [this w] at h; cases h
  · cases h
theorem witness_coherentWriteOwesKill :
    let s : State := { writing true .held with shadow := base.shadow.record 0x00800100 2 }
    s.resetHeld = false ∧ s.bus.recordOf 5 = some { id := 5, requester := .write 6 } ∧ (s.chan 6).buffer.state = .writing ∧
      (s.chan 6).buffer.reservation = .held ∧ LookupQueues s (s.chan 6).buffer.line :=
  ⟨by decide, by decide, by decide, by decide, .inr ⟨by decide, .inl ⟨2, { tag := 0x00800, fresh := false }, by decide⟩⟩⟩
theorem witness_ackResolves_merged :
    let s : State :=
      { writing true .held with
        shadow := { base.shadow with mode := .broadcast }
        inv := { entries := [{ line := 0x00800100, chans := [3], issued := false }], waiters := [] } }
    s.resetHeld = false ∧ s.bus.recordOf 5 = some { id := 5, requester := .write 6 } ∧ (s.chan 6).buffer.state = .writing ∧
      (s.chan 6).buffer.reservation = .held ∧ LookupQueues s (s.chan 6).buffer.line ∧
      ∃ e ∈ s.inv.entries, e.line = (s.chan 6).buffer.line ∧ e.issued = false :=
  ⟨by decide, by decide, by decide, by decide, .inl (by decide), ⟨_, .head _, by decide, by decide⟩⟩

/-- Seven queued entries and channel 6's reservation fill the places; channel 1 waits. -/
def crowded : State :=
  let s := withBuffer (inState (writing true .held) 1 .active) 1 .pending true .waiting
  { s with
    inv :=
      { entries := (List.range 7).map fun k => { line := BitVec.ofNat 32 (16 * k), chans := [0], issued := false }
        waiters := [1] } }

theorem witness_releasedPlace :
    crowded.resetHeld = false ∧ PlacesLaw crowded ∧ crowded.bus.recordOf 5 = some { id := 5, requester := .write 6 } ∧
      (crowded.chan 6).buffer.state = .writing ∧ (crowded.chan 6).buffer.reservation = .held ∧ (crowded.chan 6).txn = none ∧
      ¬ LookupQueues crowded (crowded.chan 6).buffer.line ∧ crowded.inv.waiters = [1] ∧ (1 : Chan) ≠ 6 ∧
      (crowded.chan 1).buffer.state = .pending := by
  refine ⟨by decide, by unfold PlacesLaw; decide, by decide, by decide, by decide, by decide, ?_, by decide, by decide, by decide⟩
  rintro (h | ⟨-, ⟨w, e, -, h, -⟩ | h⟩)
  · revert h; decide
  · have : ∀ w : Way, crowded.shadow.sets[setOf (crowded.chan 6).buffer.line][w] = none := by decide
    rw [this w] at h; cases h
  · revert h; decide
/-- Its line's unissued entry stands, under BROADCAST: channel 6 joins it. -/
theorem witness_releasedPlace_merge :
    let s : State :=
      { withTxn crowded 6 (.write 0x004810 (.two 1 2)) .waitBuffer (some { line := 0x00100010, pos := 0, coh := true }) with
        shadow := { base.shadow with mode := .broadcast }
        inv := { crowded.inv with entries := { line := 0x00800100, chans := [3], issued := false } :: crowded.inv.entries.tail } }
    s.resetHeld = false ∧ PlacesLaw s ∧ s.bus.recordOf 5 = some { id := 5, requester := .write 6 } ∧
      (s.chan 6).buffer.state = .writing ∧ (s.chan 6).buffer.reservation = .held ∧ s.inv.waiters = [1] ∧
      LookupQueues s (s.chan 6).buffer.line ∧ ∃ e ∈ s.inv.entries, e.line = (s.chan 6).buffer.line ∧ e.issued = false :=
  ⟨by decide, by unfold PlacesLaw; decide, by decide, by decide, by decide, by decide, .inl (by decide),
    ⟨_, .head _, by decide, by decide⟩⟩
/-- No entry of its line stands, under BROADCAST: the place becomes a new entry's. -/
theorem witness_releasedPlace_append :
    let s : State := { crowded with shadow := { base.shadow with mode := .broadcast } }
    s.resetHeld = false ∧ PlacesLaw s ∧ s.bus.recordOf 5 = some { id := 5, requester := .write 6 } ∧
      (s.chan 6).buffer.state = .writing ∧ (s.chan 6).buffer.reservation = .held ∧ s.inv.waiters = [1] ∧
      LookupQueues s (s.chan 6).buffer.line ∧ ∀ e ∈ s.inv.entries, e.line ≠ (s.chan 6).buffer.line :=
  ⟨by decide, by unfold PlacesLaw; decide, by decide, by decide, by decide, by decide, .inl (by decide), by decide⟩
/-- Channel 6's buffer is PENDING with the eighth place at CH_ABORT. -/
theorem witness_releasedPlace_abort :
    let s := withBuffer crowded 6 .pending true .held
    CommandReady s ∧ (6 : BitVec 4).toNat = (6 : Chan).val ∧ PlacesLaw s ∧ (s.chan 6).state = .active ∧
      (s.chan 6).buffer.state = .pending ∧ (s.chan 6).buffer.reservation = .held ∧ s.inv.waiters = [1] ∧
      6 ∉ s.inv.waiters ∧ (s.chan 1).buffer.state = .pending :=
  ⟨⟨by decide, by decide, by decide⟩, by decide, by unfold PlacesLaw; decide, by decide, by decide, by decide, by decide,
    by decide, by decide⟩
theorem witness_removedPlace :
    let s : State :=
      withCycle
        { withBuffer (inState base 1 .active) 1 .pending true .waiting with
          inv :=
            { entries := (List.range 8).map fun k => { line := BitVec.ofNat 32 (16 * k), chans := [0], issued := k == 0 }
              waiters := [1] } }
        .kill
    s.resetHeld = false ∧ PlacesLaw s ∧ s.bus.recordOf 5 = some { id := 5, requester := .kill } ∧
      (∃ e entries, s.inv.entries = e :: entries ∧ e.issued = true) ∧ s.inv.waiters = [1] ∧
      (s.chan 1).buffer.state = .pending :=
  ⟨by decide, by unfold PlacesLaw; decide, by decide, ⟨_, _, rfl, rfl⟩, by decide, by decide⟩
theorem witness_ackBusError_sync :
    let s := withTxn (writing true .held) 6 .sync .waitSync none
    s.resetHeld = false ∧ s.bus.recordOf 5 = some { id := 5, requester := .write 6 } ∧ (s.chan 6).buffer.state = .writing ∧
      (s.chan 6).state = .active ∧
      (s.chan 6).txn = some { request := .sync, phase := .waitSync, translation := none, writeErrorSeen := false } := by decide
theorem witness_ackBusError_none :
    (writing true .held).resetHeld = false ∧ (writing true .held).bus.recordOf 5 = some { id := 5, requester := .write 6 } ∧
      ((writing true .held).chan 6).buffer.state = .writing ∧ ((writing true .held).chan 6).state = .active ∧
      ((writing true .held).chan 6).txn = none := by decide
theorem witness_ackCompletesDrain :
    let s := inState (writing false .none) 6 .draining
    s.resetHeld = false ∧ s.bridge = .running ∧ s.bus.recordOf 5 = some { id := 5, requester := .write 6 } ∧
      (s.chan 6).buffer.state = .writing ∧ (s.chan 6).buffer.reservation ≠ .held ∧ (s.chan 6).state = .draining ∧
      (s.chan 6).txn = none ∧ s.inSlot 6 = false ∧ s.inWalkQueue 6 = false ∧ ∀ e ∈ s.inv.entries, 6 ∉ e.chans := by decide
theorem witness_ackCompletesAbort :
    let s := inState (writing false .none) 6 .aborting
    s.resetHeld = false ∧ s.bridge = .running ∧ s.bus.recordOf 5 = some { id := 5, requester := .write 6 } ∧
      (s.chan 6).buffer.state = .writing ∧ (s.chan 6).buffer.reservation ≠ .held ∧ (s.chan 6).state = .aborting ∧
      (s.chan 6).txn = none ∧ s.inSlot 6 = false ∧ (s.chan 6).lineRead = none := by decide
/-- Its discarded line read is still outstanding. -/
theorem witness_ackCompletesAbort_notYet :
    let s := (inState (writing false .none) 6 .aborting).modChan 6 fun ch =>
      { ch with lineRead := some { line := 0x00100000, issued := true, stalePending := false, discard := true } }
    s.resetHeld = false ∧ s.bridge = .running ∧ s.bus.recordOf 5 = some { id := 5, requester := .write 6 } ∧
      (s.chan 6).buffer.state = .writing ∧ (s.chan 6).buffer.reservation ≠ .held ∧ (s.chan 6).state = .aborting ∧
      (s.chan 6).txn = none ∧ (s.chan 6).lineRead.any (fun r => r.issued) = true := by decide
theorem witness_killAcknowledged_answers :
    let s := withTxn (inState (killing []) 3 .active) 3 .sync .waitSync none
    s.resetHeld = false ∧ s.bridge = .running ∧ s.bus.recordOf 5 = some { id := 5, requester := .kill } ∧
      s.inv.entries = [{ line := 0x00401230, chans := [0, 3], issued := true }] ∧ s.inv.waiters = [] ∧
      (s.chan 3).txn = some { request := .sync, phase := .waitSync, translation := none, writeErrorSeen := false } ∧
      (s.chan 3).buffer.state = .empty ∧ (s.chan 3).buffer.reservation ≠ .held := by decide
theorem witness_killAcknowledged_waits :
    let s := withTxn (inState (killing [{ line := 0x00220A10, chans := [3], issued := false }]) 3 .active) 3 .sync .waitSync none
    s.resetHeld = false ∧ s.bridge = .running ∧ s.bus.recordOf 5 = some { id := 5, requester := .kill } ∧
      s.inv.waiters = [] ∧ (s.chan 3).txn.any (fun x => x.request == .sync) = true ∧
      ∃ f ∈ s.inv.entries.tail, 3 ∈ f.chans :=
  ⟨by decide, by decide, by decide, by decide, by decide, ⟨_, .head _, by decide⟩⟩
/-- Channel 3 is DRAINING and waits for this KILL alone. -/
theorem witness_killAcknowledged_drains :
    let s := inState (killing []) 3 .draining
    s.resetHeld = false ∧ PlacesLaw s ∧ SettledLaw s ∧ s.bus.recordOf 5 = some { id := 5, requester := .kill } ∧
      s.inv.entries = [{ line := 0x00401230, chans := [0, 3], issued := true }] ∧
      DrainEnds ({ s.freeRecord 5 with inv := { s.inv with entries := [] } } : State) 3 :=
  ⟨by decide, by unfold PlacesLaw; decide, settled_of_check (by decide), by decide, by decide,
    by decide, .inl (by decide), ⟨by decide, by decide, fun e h => by cases h⟩, by decide, by decide⟩

/-! ### The bus master -/

theorem witness_busGrant_kill :
    let s : State := { base with inv := { entries := [{ line := 0, chans := [6], issued := false }], waiters := [] } }
    s.resetHeld = false ∧ s.bus.cycles.length < 4 ∧ s.inv.entries = { line := 0, chans := [6], issued := false } :: [] := by decide
theorem witness_busGrant_walk :
    let s := withWalk act false false false
    s.resetHeld = false ∧ s.bus.cycles.length < 4 ∧ s.killStands = false ∧ s.walk.requests = [0] ∧
      s.walk.slots[(0 : Fin 2)] = some (someWalk false false false) := by decide
theorem witness_busGrant_write :
    let s := withBuffer act 6 .pending true .held
    s.resetHeld = false ∧ s.bus.cycles.length < 4 ∧ s.killStands = false ∧ s.walk.requests = [] ∧
      NextInClass s.writeStands s.bus.writeLast 6 :=
  ⟨by decide, by decide, by decide, by decide, (find_round_iff _ _ _).1 (by decide)⟩
theorem witness_busGrant_read :
    let s := act.modChan 6 fun ch =>
      { ch with lineRead := some { line := 0x00100000, issued := false, stalePending := false, discard := false } }
    s.resetHeld = false ∧ s.bus.cycles.length < 4 ∧ s.killStands = false ∧ s.walk.requests = [] ∧
      (∀ d, s.writeStands d = false) ∧ NextInClass s.readStands s.bus.readLast 6 :=
  ⟨by decide, by decide, by decide, by decide, by decide, (find_round_iff _ _ _).1 (by decide)⟩
theorem witness_busGrant_full :
    let s : State :=
      { base with bus := { base.bus with cycles := (List.range 4).map fun k => { id := k, requester := .write (Fin.ofNat 8 k) } } }
    s.resetHeld = false ∧ 4 ≤ s.bus.cycles.length := by decide
theorem witness_busGrant_nothing :
    base.resetHeld = false ∧ base.killStands = false ∧ base.walk.requests = [] ∧
      ∀ c, base.writeStands c = false ∧ base.readStands c = false := by decide
theorem witness_completions_ignored : (writing true .held).resetHeld = false ∧ ∀ k ∈ (writing true .held).bus.cycles, k.id ≠ 4 := by
  decide
theorem witness_completions_write :
    let s : State := { writing true .held with bridge := .resetting }
    s.resetHeld = false ∧ s.bus.recordOf 5 = some { id := 5, requester := .write 6 } ∧ s.bridge = .resetting := by decide
theorem witness_completions_kill :
    (killing []).resetHeld = false ∧ (killing []).bus.recordOf 5 = some { id := 5, requester := .kill } ∧
      (killing []).bridge = .running := by decide
theorem witness_observedWrite : base.resetHeld = false ∧ Writes 0x00100027 [true] 0x00100024 4 ∧ ¬ Writes 0x00100028 [true] 0x00100024 4 := by
  refine ⟨by decide, ⟨0, by decide⟩, ?_⟩
  rintro ⟨k, -, -, h⟩
  have : (0x00100028 : Word).toNat = (0x00100024 : Word).toNat + 4 := by decide
  omega

/-! ### The shadow tag store, the timebase, the resets, the window -/

theorem witness_setAndTag_lookup :
    (writing true .held).resetHeld = false ∧ (writing true .held).bus.recordOf 5 = some { id := 5, requester := .write 6 } ∧
      (∃ t, exec (.lineWriteAcknowledge 5 .ok) (writing true .held) = .next t) ∧
      (0 : Fin 256) ≠ setOf ((writing true .held).chan 6).buffer.line :=
  ⟨by decide, by decide, ⟨_, rfl⟩, by decide⟩
theorem witness_setAndTag_store :
    base.shadow.wayMask.getLsbD (7 : Way).val = true ∧ base.shadow.wayMask = 0xFF ∧
      ∀ w : Way, setOf (Vector.ofFn fun v : Fin 8 => BitVec.ofNat 32 (4096 * v.val))[w] = 0 := by decide
theorem witness_fill_off : ({ base with shadow := { base.shadow with mode := .off } } : State).shadow.mode = .off := rfl
theorem witness_fill_disabledWay :
    let s : State := { base with shadow := { base.shadow with wayMask := 0xBF } }
    s.resetHeld = false ∧ s.shadow.mode ≠ .off ∧ s.shadow.wayMask.getLsbD (6 : Way).val = false := by decide
theorem witness_fill_recorded :
    base.resetHeld = false ∧ base.shadow.mode ≠ .off ∧ base.shadow.wayMask.getLsbD (7 : Way).val = true := by decide
theorem witness_sweepStep_clearing :
    let s : State := { base with shadow := { base.shadow with state := .clearing, pointer := 255 } }
    s.resetHeld = false ∧ s.shadow.state = .clearing ∧ SweepPointerLaw s :=
  ⟨by decide, rfl, by simp [SweepPointerLaw]⟩
theorem witness_sweepStep_idle : base.resetHeld = false ∧ base.shadow.state = .idle := by decide

theorem base_fresh : FreshMarkLaw base := by
  intro set way e h
  simp [base, Vector.getElem_replicate] at h

theorem witness_wholeSweep :
    CommandReady base ∧ base.shadow.state = .idle ∧ (∃ t, exec (.tagsClear 0 0) base = .next t) ∧ FreshMarkLaw base :=
  ⟨ready_base, by decide, ⟨_, rfl⟩, base_fresh⟩
theorem witness_modeWrite : base.resetHeld = false ∧ (2 : BitVec 2).toNat = ShadowMode.broadcast.code ∧ (3 : BitVec 2).toNat = 3 := by
  decide

/-- Channel 6's buffer is FILLING with its timer at `n`, and the timebase runs. -/
def timed (n : Nat) : State :=
  { act.setBuffer 6 { someBuffer .filling true .none with timer := n } with time := { divisor := 9, count := 0 } }

theorem witness_tick_lowers :
    (timed 2).resetHeld = false ∧ (timed 2).time.divisor ≠ 0 ∧ ((timed 2).chan 6).buffer.state = .filling ∧
      ((timed 2).chan 6).desc.idleTimeout ≠ 0 ∧ 2 ≤ ((timed 2).chan 6).buffer.timer := by decide
theorem witness_tick_expires :
    (timed 1).resetHeld = false ∧ (timed 1).time.divisor ≠ 0 ∧ ((timed 1).chan 6).desc.idleTimeout ≠ 0 ∧
      ((timed 1).chan 6).buffer.state = .filling ∧ ((timed 1).chan 6).buffer.timer = 1 := by decide
/-- Channel 3's buffer alone expires at the next tick, all 8 places are in use and channel 1 waits. -/
theorem witness_tick_alone :
    let s : State :=
      { (inState crowded 3 .active).setBuffer 3 { someBuffer .filling true .none with timer := 1 } with
        time := { divisor := 9, count := 0 } }
    let expires := fun c : Chan =>
      (s.chan c).buffer.state = .filling ∧ (s.chan c).desc.idleTimeout ≠ 0 ∧ (s.chan c).buffer.timer ≤ 1
    s.resetHeld = false ∧ s.time.divisor ≠ 0 ∧ expires 3 ∧ (∀ d, expires d → d = 3) ∧ WaiterLaw s ∧ s.placesInUse = 8 ∧
      s.inv.waiters = [1] :=
  ⟨by decide, by decide, by decide, by decide, by unfold WaiterLaw; decide, by decide, by decide⟩
theorem witness_timerExpiresAtItsTick :
    (timed 16).resetHeld = false ∧ (timed 16).time.divisor ≠ 0 ∧ ((timed 16).chan 6).buffer.state = .filling ∧
      ((timed 16).chan 6).desc.idleTimeout ≠ 0 ∧ 1 ≤ ((timed 16).chan 6).buffer.timer ∧ 16 ≤ ((timed 16).chan 6).buffer.timer := by
  decide
theorem witness_softReset_running : (writing true .held).resetHeld = false ∧ (writing true .held).bridge = .running := by decide
theorem witness_softReset_resetting :
    let s : State := { writing true .held with bridge := .resetting }
    s.resetHeld = false ∧ s.bridge = .resetting := by decide
theorem witness_softReset_busy :
    let s := commanded base .xlatProbe
    s.resetHeld = false ∧ s.bridge = .running ∧ s.cmd.busy = true ∧ s.cmd.command = some .xlatProbe := by decide
theorem witness_faultPop :
    let s := base.takeFault 6 .write 0x004800 .noWrite
    s.resetHeld = false ∧
      s.log.records = { seq := 0, chan := 6, access := .write, addr := 0x004800, cause := .noWrite } :: [] := by decide
theorem witness_writeOneToClear : base.resetHeld = false := by decide
theorem witness_descriptorWrite :
    act.resetHeld = false ∧ (act.chan 0).state = .disabled ∧ (act.chan 6).state ≠ .disabled := by decide
theorem witness_windowBase : WindowBaseLaw base ∧ base.resetHeld = false := ⟨⟨false, false, rfl⟩, by decide⟩
theorem witness_registerWrite_command :
    (0x00000061 : Word).toNat % 16 = commandCode (some .chEnable) ∧ (0x0000FF02 : Word).toNat % 4 = ShadowMode.broadcast.code ∧
      (1 : Word).getLsbD 0 = true := by decide
theorem witness_registerWrite_outside :
    (0xC8001000 : Word).toNat ≥ base.windowBase.toNat + 0x1000 ∧ (0xC7FFFFFC : Word).toNat < base.windowBase.toNat := by decide
theorem witness_badWrite :
    base.windowBase.toNat ≤ (0xC8000FFC : Word).toNat ∧ (0xC8000FFC : Word).toNat < base.windowBase.toNat + 0x1000 ∧
      (0x7 : BitVec 4) ≠ 0xF ∧ (3 : Word).toNat % 4 = 3 ∧ 10 ≤ (10 : Word).toNat % 16 ∧ base.cmd.busy = false := by decide
theorem witness_badWrite_busy :
    let s := commanded base .xlatProbe
    s.resetHeld = false ∧ WindowBaseLaw s ∧ s.cmd.busy = true ∧ 10 ≤ (15 : Word).toNat % 16 ∧ (0 : Word).toNat % 16 = 0 :=
  ⟨by decide, ⟨false, false, rfl⟩, by decide, by decide, by decide⟩
theorem witness_statusViews :
    OutstandingLaw (writing true .held) ∧ PlacesLaw crowded ∧ crowded.inv.waiters.length ≤ 8 :=
  ⟨by unfold OutstandingLaw; decide, by unfold PlacesLaw; decide, by decide⟩
/-- Two WALKs, one line READ and one KILL outstanding. -/
def mixed : State :=
  { base with
    bus :=
      { base.bus with
        cycles :=
          [{ id := 0, requester := .walk 0 }, { id := 1, requester := .walk 1 }, { id := 2, requester := .read 6 },
            { id := 3, requester := .kill }]
        nextId := 4 } }

theorem witness_statusViews_counts : OutstandingLaw mixed ∧ ∃ k ∈ mixed.bus.cycles, k.requester ≠ .kill :=
  ⟨by unfold OutstandingLaw; decide, _, .head _, by decide⟩
/-- By the table of 10.8.3: 1 KILL, 0 WRITE, 1 READ, 2 WALK, 4 in all, and the non-KILL field. -/
theorem test_bus_status : mixed.readReg .busStatus = 0x01010124 := by decide
theorem witness_statusViews_reads :
    let s := (commanded (writing true .held) .xlatProbe).takeFault 6 .write 0x004800 .noWrite
    s.resetHeld = false ∧ WindowBaseLaw s ∧ SweepPointerLaw s ∧ FaultLogLaw s ∧
      s.log.records = { seq := 0, chan := 6, access := .write, addr := 0x004800, cause := .noWrite } :: [] :=
  ⟨by decide, ⟨false, false, rfl⟩, rfl, by unfold FaultLogLaw; decide, by decide⟩
/-- The rule's example: the entry of 10.8.1 cached in entry 5 reads 0x0051_885F. -/
theorem test_probe_result_word :
    let s : State :=
      { base with
        tc :=
          { base.tc with
            probe := { hit := true, entry := 5, xlat := { frame := 0x00A31, rd := true, wr := true, coh := true } } } }
    s.windowRead 0xC8000028 0xF = some 0x0051885F := by decide

/-! ### The laws -/

/-- Every state steps. -/
theorem steps (s : State) : ∃ t, step s = .next t := by
  cases h : s.pending with
  | nil => exact ⟨s.idle, by simp [step, h]⟩
  | cons i rest =>
    obtain ⟨t, ht⟩ := exec_isNext i { s with pending := rest }
    exact ⟨t, by simp [step, h, ht]⟩

theorem witness_queueLaws :
    PlacesLaw crowded ∧ UnissuedLinesLaw crowded ∧ HeadIssuedLaw crowded ∧ FaultLogLaw crowded ∧ WaiterLaw crowded ∧
      ∃ t, step crowded = .next t :=
  ⟨by unfold PlacesLaw; decide, by unfold UnissuedLinesLaw; decide, by unfold HeadIssuedLaw; decide,
    by unfold FaultLogLaw; decide, by unfold WaiterLaw; decide, steps _⟩

/-- A sweep has passed set 3 when a fill comes into set 5. -/
def sweeping : State :=
  { base with shadow := ({ base.shadow with state := .clearing, pointer := 4 } : Shadow).record 0x00123050 4 }

theorem witness_sweepLaws :
    (FreshMarkLaw sweeping ∧ SweepPointerLaw sweeping) ∧ sweeping.shadow.sets[5][4] = some { tag := 0x00123, fresh := true } ∧
      ∃ t, step sweeping = .next t := by
  refine ⟨⟨fun set way e h hf => ⟨rfl, ?_⟩, by simp [SweepPointerLaw, sweeping, Shadow.record]⟩, by decide, steps _⟩
  show 4 ≤ set.val
  have hs : setOf 0x00123050 = 5 := by decide
  by_cases h5 : set = 5
  · subst h5; decide
  · exfalso
    have ne : setOf 0x00123050 ≠ set := fun h => h5 (h.symm.trans hs)
    simp only [sweeping, Shadow.record, vector_getElem_set_fin, if_neg ne] at h
    simp [base] at h
theorem witness_cacheLaws :
    let s := withEntry act 9 true true true
    OneTranslationLaw s ∧ RecencyLaw s ∧ ∃ t, step s = .next t :=
  ⟨oneTranslation_of_check (by decide), by unfold RecencyLaw; decide, steps _⟩
theorem witness_channelLaws :
    let s := withBuffer act 6 .filling true .none
    FillingLaw s ∧ ReadAheadLaw s ∧ LegalDescriptorLaw s ∧ OriginLaw s ∧ ∃ t, step s = .next t :=
  ⟨by unfold FillingLaw; decide, by unfold ReadAheadLaw; decide, by unfold LegalDescriptorLaw; decide,
    by unfold OriginLaw; decide, steps _⟩
theorem witness_bridgeLaws :
    let s : State := { inState (writing true .held) 6 .disabled with bridge := .resetting }
    ResettingLaw s ∧ OutstandingLaw s ∧ TimebaseLaw s ∧ WindowBaseLaw s ∧ ∃ t, step s = .next t :=
  ⟨by unfold ResettingLaw; decide, by unfold OutstandingLaw; decide, by unfold TimebaseLaw; decide, ⟨false, false, rfl⟩,
    steps _⟩
theorem witness_settledLaw : SettledLaw crowded ∧ ∃ t, step crowded = .next t := ⟨settled_of_check (by decide), steps _⟩

theorem witness_trafficLaws : TrafficLaws (walking false false) ∧ ∃ t, step (walking false false) = .next t := by
  refine ⟨⟨by unfold PendingLaw; decide, ?_, ?_, ?_, by unfold ResettingLaw; decide, by unfold LegalDescriptorLaw; decide,
    by unfold RecencyLaw; decide, oneTranslation_of_check (by decide), by unfold QuotaLaw; decide⟩, steps _⟩
  · refine ⟨fun i w h => ?_, fun q h => (by cases h), by decide, fun h => absurd rfl h, by decide, fun i => ?_⟩
    · have : i = 0 ∧ w = someWalk true false false := by
        revert h
        match i with
        | 0 => intro h; exact ⟨rfl, by cases h; rfl⟩
        | 1 => intro h; cases h
      obtain ⟨rfl, rfl⟩ := this
      exact ⟨fun _ => ⟨_, .read, 0x004800, .four, rfl, rfl, rfl, by decide⟩, fun h => by cases h⟩
    · constructor
      · intro h; cases h
      · rintro ⟨w, h, hw⟩
        match i with
        | 0 => cases h; cases hw
        | 1 => cases h
  · intro c r h
    exfalso
    have : ∀ c, ((walking false false).chan c).lineRead = none := by decide
    rw [this c] at h; cases h
  · refine ⟨by unfold OutstandingLaw; decide, by decide, fun r => ⟨?_, ?_⟩, by unfold HeadIssuedLaw; decide⟩
    · rintro ⟨k, hk, rfl⟩
      have : k = { id := 5, requester := .walk 0 } := by simpa [walking, withCycle] using hk
      subst this
      exact ⟨someWalk true false false, rfl, rfl⟩
    · intro h
      refine ⟨_, List.mem_singleton.2 rfl, ?_⟩
      match r with
      | .walk 0 => rfl
      | .walk 1 => obtain ⟨w, h, -⟩ := h; cases h
      | .read c =>
        obtain ⟨l, h, -⟩ := h
        have : ∀ c, ((walking false false).chan c).lineRead = none := by decide
        rw [this c] at h; cases h
      | .write c =>
        exfalso
        have : ∀ c, ((walking false false).chan c).buffer.state ≠ .writing := by decide
        exact this c h
      | .kill => obtain ⟨e, rest, h, -⟩ := h; cases h

end Sys2Proof.Machine.Tests
end

section
/-!
SUPPORT. Addresses and written words as numbers (R1, R3, R12): each operand function said once in the arithmetic the
statements use; and O52, which is these facts together.
-/

namespace Sys2Proof.Machine

/-- A word with its lowest `k` bits masked off. -/
theorem and_allOnes_shiftLeft_toNat {w : Nat} (x : BitVec w) (k : Nat) :
    (x &&& (BitVec.allOnes w <<< k)).toNat = x.toNat / 2 ^ k * 2 ^ k := by
  have shifted : x &&& (BitVec.allOnes w <<< k) = (x >>> k) <<< k := by
    ext i hi
    by_cases h : i < k
    · simp [h]
    · simp [h, hi, show k + (i - k) = i by omega, BitVec.getLsbD_eq_getElem]
  have small : x.toNat / 2 ^ k * 2 ^ k < 2 ^ w := Nat.lt_of_le_of_lt (Nat.div_mul_le_self _ _) x.isLt
  rw [shifted, BitVec.toNat_shiftLeft, BitVec.toNat_ushiftRight, Nat.shiftRight_eq_div_pow, Nat.shiftLeft_eq,
    Nat.mod_eq_of_lt small]

theorem storedOrigin_toNat (value : Word) : (storedOrigin value).toNat = value.toNat / 64 * 64 :=
  and_allOnes_shiftLeft_toNat value 6

theorem lineOf_toNat (addr : Word) : (lineOf addr).toNat = addr.toNat / 16 * 16 :=
  and_allOnes_shiftLeft_toNat addr 4

theorem lineStartOf_toNat (addr : ChanAddr) : (lineStartOf addr).toNat = addr.toNat / 16 * 16 :=
  and_allOnes_shiftLeft_toNat addr 4

theorem posOf_toNat (addr : ChanAddr) : (posOf addr).toNat = addr.toNat % 16 := by
  simp [posOf]

theorem pageOf_toNat (addr : ChanAddr) : (pageOf addr).toNat = addr.toNat / 2048 := by
  have := addr.isLt
  simp only [pageOf, BitVec.extractLsb'_toNat, Nat.shiftRight_eq_div_pow]
  omega

theorem hostAddress_toNat (frame : Frame) (addr : ChanAddr) :
    (hostAddress frame addr).toNat = frame.toNat * 2048 + addr.toNat % 2048 := by
  simp only [hostAddress, offsetOf, BitVec.toNat_append, BitVec.extractLsb'_toNat, Nat.shiftRight_zero]
  rw [← Nat.shiftLeft_add_eq_or_of_lt (Nat.mod_lt _ (by decide)), Nat.shiftLeft_eq]

end Sys2Proof.Machine

namespace Sys2Proof.Proofs
open Sys2Proof.Machine

/-- Settles O52: the address facts above, and 16 divides the page size. -/
theorem hostAddress : Obligations.HostAddress := fun frame addr =>
  ⟨hostAddress_toNat frame addr, lineOf_toNat _, posOf_toNat addr, by rw [hostAddress_toNat]; omega,
    lineStartOf_toNat addr, pageOf_toNat addr⟩

end Sys2Proof.Proofs
end

section
/-!
SUPPORT. What a step can do to a channel, as one inductive, and the proof that every step takes each channel through a
chain of these moves: a law of one channel is kept by every step as soon as each move keeps it.
-/

namespace Sys2Proof.Machine

/-! ## The moves of a channel -/

/-- Everything that can happen to a channel: its port, its transaction and its line read (`traffic`), its buffer, its
read-ahead line, its state (R65) and its descriptor (R6), and the power-on values. -/
inductive ChannelMove : Channel → Channel → Prop
  | traffic (a txn lineRead held answers) :
      ChannelMove a { a with txn := txn, lineRead := lineRead, held := held, answers := answers }
  | buffer (a b) : (b.state = .filling → a.buffer.state = .filling ∨ a.state = .active) →
      ChannelMove a { a with buffer := b }
  | dropLine (a) (p : HeldLine → Bool) : ChannelMove a { a with readAhead := a.readAhead.filter p }
  | retainLine (a l) : a.state = .active → ChannelMove a { a with readAhead := some l }
  | leave (a st) : a.buffer.state ≠ .filling → (st ≠ .disabled → a.state ≠ .disabled) →
      ChannelMove a { a with state := st, readAhead := none }
  | finish (a) : a.state = .draining ∨ a.state = .aborting → ChannelMove a { a with state := .disabled }
  | enable (a) : a.state = .disabled → a.desc.legal = true → ChannelMove a { a with state := .active }
  | resume (a) : a.state = .faulted → ChannelMove a { a with state := .active }
  | descriptor (a reg value) : a.state = .disabled → ChannelMove a { a with desc := a.desc.write reg value }
  | powerOff (a) : ChannelMove a a.powerOff

/-- A channel goes from one value to another by moves. -/
abbrev ChannelMoves : Channel → Channel → Prop := Relation.ReflTransGen ChannelMove

/-- Every channel goes from its value in `s` to its value in `t` by moves. -/
structure ChannelsMove (s t : State) : Prop where
  chan : ∀ c, ChannelMoves (s.chan c) (t.chan c)

/-- R80: the law of FILLING, of one channel. -/
theorem ChannelMove.keeps_filling {a b : Channel} (m : ChannelMove a b)
    (h : a.buffer.state = .filling → a.state = .active) : b.buffer.state = .filling → b.state = .active := by
  cases m with
  | traffic | dropLine | retainLine | descriptor => exact h
  | buffer b hb => exact fun hf => (hb hf).elim h id
  | leave st hb => exact fun hf => absurd hf hb
  | finish hs => intro hf; rcases hs with hs | hs <;> simp [h hf] at hs
  | enable | resume => exact fun _ => rfl
  | powerOff => intro hf; cases hf

/-- R97: the law of the read-ahead line, of one channel. -/
theorem ChannelMove.keeps_readAhead {a b : Channel} (m : ChannelMove a b)
    (h : a.readAhead.isSome = true → a.state = .active) : b.readAhead.isSome = true → b.state = .active := by
  cases m with
  | traffic | buffer | descriptor => exact h
  | dropLine p => exact fun hl => h (Option.isSome_of_isSome_filter p _ hl)
  | retainLine l ha => exact fun _ => ha
  | leave | powerOff => intro hl; cases hl
  | finish hs => intro hl; rcases hs with hs | hs <;> simp [h hl] at hs
  | enable | resume => exact fun _ => rfl

/-- R4, R8: the law of the legal descriptor, of one channel. -/
theorem ChannelMove.keeps_legal {a b : Channel} (m : ChannelMove a b)
    (h : a.state ≠ .disabled → a.desc.legal = true) : b.state ≠ .disabled → b.desc.legal = true := by
  cases m with
  | traffic | buffer | dropLine | retainLine => exact h
  | leave st _ hs => exact fun hn => h (hs hn)
  | finish | powerOff => exact fun hn => absurd rfl hn
  | enable _ legal => exact fun _ => legal
  | resume hs => exact fun _ => h (by simp [hs])
  | descriptor reg value hs => exact fun hn => absurd hs hn

/-- R3: the law of the map origin, of one channel. -/
theorem ChannelMove.keeps_origin {a b : Channel} (m : ChannelMove a b)
    (h : a.desc.mapOrigin.toNat % 64 = 0) : b.desc.mapOrigin.toNat % 64 = 0 := by
  cases m with
  | traffic | buffer | dropLine | retainLine | leave | finish | enable | resume => exact h
  | descriptor reg value =>
    cases reg with
    | mapOrigin => simp [Descriptor.write, storedOrigin_toNat]
    | mapLength | channelSettings => exact h
  | powerOff => rfl

/-- A law of one channel that every move keeps holds of every channel after the moves. -/
theorem ChannelsMove.keeps {P : Channel → Prop} (keep : ∀ {a b}, ChannelMove a b → P a → P b) {s t : State}
    (h : ChannelsMove s t) (hs : ∀ c, P (s.chan c)) (c : Chan) : P (t.chan c) := by
  have moves := h.chan c
  generalize t.chan c = x at moves ⊢
  induction moves with
  | refl => exact hs c
  | tail _ m ih => exact keep m ih

/-! ## Moves of the channels of a state -/

theorem ChannelsMove.refl (s : State) : ChannelsMove s s := ⟨fun _ => .refl⟩

/-- The moves of an operation after those of what it is applied to. -/
theorem ChannelsMove.after {s t u : State} (h₂ : ChannelsMove t u) (h₁ : ChannelsMove s t) : ChannelsMove s u :=
  ⟨fun c => (h₁.chan c).trans (h₂.chan c)⟩

theorem ChannelsMove.of_chan_eq {s t : State} (h : ∀ c, t.chan c = s.chan c) : ChannelsMove s t :=
  ⟨fun c => h c ▸ .refl⟩

/-- An update of the state's other parts moves no channel. -/
theorem ChannelsMove.of_chans_eq {s t : State} (h : t.chans = s.chans) : ChannelsMove s t :=
  .of_chan_eq (State.chan_of_chans h)

/-- One channel is replaced: that channel moves, the others stay. -/
theorem ChannelsMove.setChan {s : State} {c : Chan} {x : Channel} (h : ChannelMoves (s.chan c) x) :
    ChannelsMove s (s.setChan c x) := ⟨fun d => by
  rw [State.chan_setChan]
  split
  · next hd => exact hd ▸ h
  · exact .refl⟩

theorem ChannelsMove.modChan {s : State} {c : Chan} {f : Channel → Channel}
    (h : ChannelMove (s.chan c) (f (s.chan c))) : ChannelsMove s (s.modChan c f) := .setChan (.single h)

theorem ChannelsMove.setBuffer {s : State} {c : Chan} {b : Buffer}
    (h : b.state = .filling → (s.chan c).buffer.state = .filling ∨ (s.chan c).state = .active) :
    ChannelsMove s (s.setBuffer c b) := .modChan (.buffer _ b h)

theorem ChannelsMove.foldl {α : Type} {f : State → α → State} (h : ∀ s a, ChannelsMove s (f s a)) (l : List α)
    (s : State) : ChannelsMove s (l.foldl f s) := by
  induction l generalizing s with
  | nil => exact .refl s
  | cons a l ih => exact (ih (f s a)).after (h s a)

theorem ChannelsMove.unlessReset {s : State} {f : State → State} (h : ChannelsMove s (f s)) :
    ChannelsMove s (s.unlessReset f) := State.unlessReset_keeps (.refl s) fun _ => h

/-! ## The shared operations -/

section
variable (s : State) (c : Chan)

theorem State.answer_moves (a : Answer) : ChannelsMove s (s.answer c a) := .modChan (.traffic ..)

theorem State.flushBuffer_moves : ChannelsMove s (s.flushBuffer c) := ⟨fun d => by
  by_cases hd : d = c
  · subst hd
    rw [State.flushBuffer_chan_self]
    refine .single (.buffer _ _ fun h => ?_)
    rw [State.flushBuffer_buffer_state] at h
    split at h
    · cases h
    · exact .inl h
  · rw [State.flushBuffer_chan_ne s hd]⟩

/-- R68, R73: a channel whose buffer is flushed leaves ACTIVE, or FAULTED, and drops its read-ahead line. -/
theorem State.flushBuffer_leave_moves (st : ChState) (h : (s.chan c).state ≠ .disabled) :
    ChannelsMove s ((s.flushBuffer c).modChan c fun ch => { ch with state := st, readAhead := none }) := by
  refine .after (.modChan (.leave _ st ?_ fun _ => ?_)) (s.flushBuffer_moves c)
  · rw [State.flushBuffer_buffer_state]
    split
    · decide
    · assumption
  · rw [State.flushBuffer_chan_self]
    exact h

theorem State.takeFault_moves (k : Access) (a : ChanAddr) (x : Cause) : ChannelsMove s (s.takeFault c k a x) :=
  .of_chan_eq fun d => s.chan_takeFault c d k a x

theorem State.enterFaulted_moves : ChannelsMove s (s.enterFaulted c) := by
  unfold State.enterFaulted
  split
  · next h => exact s.flushBuffer_leave_moves c .faulted (by simp [h])
  · exact .refl s

theorem State.failTransaction_moves (k : Access) (a : ChanAddr) (x : Cause) (y : Answer) :
    ChannelsMove s (s.failTransaction c k a x y) :=
  (State.enterFaulted_moves ..).after ((State.takeFault_moves ..).after (s.answer_moves ..))

theorem State.grantPlace_moves : ChannelsMove s s.grantPlace := by
  obtain ⟨h, -⟩ | ⟨c, rest, -, -, h⟩ := s.grantPlace_cases
  · rw [h]; exact .refl s
  · rw [h]; exact .after (.setBuffer .inl) (.of_chans_eq rfl)

theorem State.endReservation_moves : ChannelsMove s (s.endReservation c) := .setBuffer .inl

theorem State.releaseReservation_moves : ChannelsMove s (s.releaseReservation c) :=
  (State.grantPlace_moves _).after (s.endReservation_moves c)

theorem State.queueInvalidate_moves (line : Word) : ChannelsMove s (s.queueInvalidate c line) := by
  simp only [State.queueInvalidate]
  split
  · exact (State.releaseReservation_moves ..).after (.of_chans_eq rfl)
  · exact (State.endReservation_moves ..).after (.of_chans_eq rfl)

theorem State.trySync_moves : ChannelsMove s (s.trySync c) := by
  by_cases h : SyncEnds s c
  · obtain ⟨⟨x, hx, -⟩, -⟩ := id h
    rw [State.trySync_of_ends hx h]
    exact s.answer_moves c _
  · rw [State.trySync_of_not_ends h]
    exact .refl s

theorem State.reachDisabled_moves (h : (s.chan c).state = .draining ∨ (s.chan c).state = .aborting) :
    ChannelsMove s (s.reachDisabled c) :=
  .after (t := s.modChan c fun ch => { ch with state := .disabled }) (.of_chans_eq rfl) (.modChan (.finish _ h))

theorem State.settle_moves : ChannelsMove s (s.settle c) := by
  by_cases h : DrainEnds s c ∨ AbortEnds s c
  · rw [(s.settle_eq c).1 h]
    refine .after (State.reachDisabled_moves _ c ?_) (s.trySync_moves c)
    rw [State.trySync_chan_self]
    exact h.imp And.left And.left
  · rw [(s.settle_eq c).2 h]
    exact s.trySync_moves c

/-! ## The path of an access -/

theorem State.startWalk_chan (p : Page) (d : Chan) : (s.startWalk c p).chan d = s.chan d := by
  unfold State.startWalk
  split <;> rfl

theorem State.freeSlot_chan (i : Fin 2) (d : Chan) : (s.freeSlot i).chan d = s.chan d := by
  simp only [State.freeSlot]
  split <;> rfl

theorem State.freeSlot_moves (i : Fin 2) : ChannelsMove s (s.freeSlot i) := .of_chan_eq (s.freeSlot_chan i)

theorem State.waitForBuffer_moves (tr : Translation) : ChannelsMove s (s.waitForBuffer c tr) := .modChan (.traffic ..)

/-- R76, R81: a merge leaves the buffer FILLING only in ACTIVE. -/
theorem State.mergeWrite_moves (addr : ChanAddr) (data : WriteData) (tr : Translation) :
    ChannelsMove s (s.mergeWrite c addr data tr) := by
  simp only [State.mergeWrite]
  generalize Buffer.merge _ _ _ _ = m
  split
  · refine ⟨fun d => ?_⟩
    by_cases hd : d = c
    · subst hd
      have closed := State.flushBuffer_buffer_state ((s.setBuffer d m).answer d (.done [])) d
      rw [State.flushBuffer_chan_self, State.chan_answer_self, State.chan_setBuffer_self]
      refine (Relation.ReflTransGen.single (.buffer (s.chan d) _ fun hf => ?_)).tail (.traffic ..)
      rw [hf] at closed
      split at closed
      · cases closed
      · next h => exact absurd closed.symm h
    · rw [State.flushBuffer_chan_ne _ hd, State.chan_answer, if_neg (Ne.symm hd), State.chan_setBuffer,
        if_neg (Ne.symm hd)]
  · next h => exact (State.answer_moves ..).after (.setBuffer fun _ => .inr (by tauto))

theorem State.placeWrite_moves (addr : ChanAddr) (data : WriteData) (tr : Translation) :
    ChannelsMove s (s.placeWrite c addr data tr) := by
  simp only [State.placeWrite]
  repeat' split
  · exact s.mergeWrite_moves c addr data tr
  · exact s.mergeWrite_moves c addr data tr
  · exact (State.waitForBuffer_moves ..).after (s.flushBuffer_moves c)
  · exact s.waitForBuffer_moves c tr
  · exact s.waitForBuffer_moves c tr

theorem State.placeRead_moves (size : Size) (tr : Translation) : ChannelsMove s (s.placeRead c size tr) := by
  simp only [State.placeRead, State.serveRead]
  repeat' split
  · exact (State.waitForBuffer_moves ..).after (s.flushBuffer_moves c)
  · exact s.answer_moves c _
  · exact .modChan (.traffic ..)

theorem State.checkRights_moves (x : Xlat) : ChannelsMove s (s.checkRights c x) := by
  unfold State.checkRights
  repeat' split
  · exact .refl s
  · exact s.placeRead_moves ..
  · exact s.failTransaction_moves ..
  · exact s.placeWrite_moves ..
  · exact s.failTransaction_moves ..
  · exact .refl s

theorem State.failWalk_moves (x : Cause) : ChannelsMove s (s.failWalk c x) := by
  unfold State.failWalk
  repeat' split
  · exact .refl s
  · exact s.failTransaction_moves ..
  · exact .refl s

theorem State.walkReturn_moves (i : Fin 2) (result : WalkResult) : ChannelsMove s (s.walkReturn i result) := by
  simp only [State.walkReturn]
  repeat' split
  · exact .refl s
  · exact .refl s
  · exact (State.settle_moves ..).after (s.freeSlot_moves i)
  · exact .of_chans_eq rfl
  · exact (State.settle_moves ..).after ((State.failWalk_moves ..).after (s.freeSlot_moves i))
  · exact (State.settle_moves ..).after ((State.failWalk_moves ..).after (s.freeSlot_moves i))
  · exact (State.settle_moves ..).after ((State.checkRights_moves ..).after
      ((State.freeSlot_moves ..).after (.of_chans_eq rfl)))

theorem State.lookup_moves : ChannelsMove s (s.lookup c) := by
  unfold State.lookup
  repeat' split
  · exact .refl s
  · exact (State.settle_moves ..).after ((State.checkRights_moves ..).after (.of_chans_eq rfl))
  · exact .after (.of_chan_eq (State.startWalk_chan _ c _)) (.modChan (.traffic ..))

theorem State.answerRead_moves (d : LineData) : ChannelsMove s (s.answerRead c d) := by
  unfold State.answerRead
  split
  · exact s.answer_moves ..
  · exact .refl s

/-- R96: a line is retained only in ACTIVE. -/
theorem ChannelMoves.retain (ch : Channel) (r : LineRead) (d : LineData) :
    ChannelMoves ch { ch with readAhead := ch.retain r d } := by
  unfold Channel.retain
  split
  · next h => exact .single (.retainLine ch _ h.1)
  · exact .refl

theorem State.lineReadReturn_moves (result : LineResult) : ChannelsMove s (s.lineReadReturn c result) := by
  have cleared : ChannelsMove s (s.modChan c fun ch => { ch with lineRead := none }) := .modChan (.traffic ..)
  simp only [State.lineReadReturn]
  repeat' split
  · exact .refl s
  · exact .refl s
  · exact (State.settle_moves ..).after cleared
  · exact (State.settle_moves ..).after ((State.failTransaction_moves ..).after cleared)
  · exact (State.settle_moves ..).after cleared
  · exact (State.settle_moves ..).after ((State.answerRead_moves ..).after
      (.after (.setChan (.retain ..)) cleared))

theorem State.writeBusError_moves : ChannelsMove s (s.writeBusError c) :=
  .after (.modChan (.traffic ..)) ((State.enterFaulted_moves ..).after (s.takeFault_moves ..))

theorem State.resolveReservation_moves : ChannelsMove s (s.resolveReservation c) := by
  simp only [State.resolveReservation]
  repeat' split
  · exact (State.queueInvalidate_moves ..).after (.of_chans_eq rfl)
  · exact (State.releaseReservation_moves ..).after (.of_chans_eq rfl)
  · exact .refl s

theorem State.restartWaiting_moves : ChannelsMove s (s.restartWaiting c) := by
  unfold State.restartWaiting
  split
  · exact s.placeWrite_moves ..
  · exact s.placeRead_moves ..
  · exact .refl s

theorem State.lineWriteAck_moves (ack : Ack) : ChannelsMove s (s.lineWriteAck c ack) := by
  have emptied (t : State) : ChannelsMove t ((t.resolveReservation c).setBuffer c Buffer.cleared) :=
    .after (.setBuffer nofun) (t.resolveReservation_moves c)
  unfold State.lineWriteAck
  split
  · refine (State.settle_moves ..).after ((State.restartWaiting_moves ..).after ((emptied _).after ?_))
    cases ack with
    | ok => exact .refl s
    | busError => exact s.writeBusError_moves c
  · exact .refl s

end

section
variable (s : State)

theorem State.killAck_moves (ack : Ack) : ChannelsMove s (s.killAck ack) := by
  unfold State.killAck
  split
  · exact .refl s
  · split
    · refine .after (.foldl State.settle_moves ..) ((State.grantPlace_moves _).after ?_)
      cases ack <;> exact .of_chans_eq rfl
    · exact .refl s

/-! ## The bus -/

theorem State.observe_moves (w : BusWrite) : ChannelsMove s (s.observe w) := ⟨fun c => by
  rw [State.observe, State.chan_mapChans]
  exact (Relation.ReflTransGen.single (.dropLine _ _)).tail (.traffic ..)⟩

theorem State.issue_moves (r : Requester) : ChannelsMove s (s.issue r) := by
  cases r with
  | walk i => exact .of_chans_eq rfl
  | read c =>
    simp only [State.issue]
    exact .after (.modChan (.traffic ..)) (.of_chans_eq rfl)
  | write c =>
    simp only [State.issue]
    exact (State.observe_moves ..).after (.after (.setBuffer nofun) (.of_chans_eq rfl))
  | kill =>
    simp only [State.issue]
    split <;> exact .of_chans_eq rfl

theorem State.busGrant_moves : ChannelsMove s s.busGrant := by
  unfold State.busGrant
  repeat' split
  · exact s.issue_moves _
  · exact .refl s
  · exact .refl s

theorem State.endResetting_moves : ChannelsMove s s.endResetting := by
  unfold State.endResetting
  split <;> exact .of_chans_eq rfl

theorem State.complete_moves (k : Completion) : ChannelsMove s (s.complete k) := by
  unfold State.complete
  split <;> split
  · exact (State.endResetting_moves _).after ((State.walkReturn_moves ..).after (.of_chans_eq rfl))
  · exact .refl s
  · exact (State.endResetting_moves _).after ((State.lineReadReturn_moves ..).after (.of_chans_eq rfl))
  · exact .refl s
  · exact (State.endResetting_moves _).after ((State.lineWriteAck_moves ..).after (.of_chans_eq rfl))
  · exact .refl s
  · exact (State.endResetting_moves _).after ((State.killAck_moves ..).after (.of_chans_eq rfl))
  · exact .refl s

/-! ## Ports and time -/

theorem State.takeRequest_moves (c : Chan) (r : Request) : ChannelsMove s (s.takeRequest c r) := by
  unfold State.takeRequest State.acceptAccess State.acceptSync
  repeat' split
  · exact s.failTransaction_moves ..
  · exact s.failTransaction_moves ..
  · exact .modChan (.traffic ..)
  · exact (State.settle_moves ..).after ((State.flushBuffer_moves ..).after (.modChan (.traffic ..)))
  · exact s.answer_moves ..

theorem State.portTake_moves (c : Chan) : ChannelsMove s (s.portTake c) := by
  unfold State.portTake
  split
  · exact (State.takeRequest_moves ..).after (.modChan (.traffic ..))
  · exact .refl s

theorem State.present_moves (c : Chan) (r : Request) : ChannelsMove s (s.present c r) := by
  unfold State.present
  exact .after (.unlessReset (State.portTake_moves ..)) (.modChan (.traffic ..))

theorem State.flushExpired_moves : ChannelsMove s s.flushExpired := by
  simp only [State.flushExpired]
  split
  · exact .foldl State.flushBuffer_moves ..
  · exact .after (.foldl State.flushBuffer_moves ..) (.of_chans_eq rfl)

theorem ChannelMoves.lowerTimer (ch : Channel) : ChannelMoves ch ch.lowerTimer := by
  unfold Channel.lowerTimer
  split
  · exact .single (.buffer _ _ .inl)
  · exact .refl

theorem State.tick_moves : ChannelsMove s s.tick := by
  unfold State.tick
  split
  · exact .refl s
  · refine (State.flushExpired_moves _).after ⟨fun c => ?_⟩
    rw [State.chan_mapChans]
    exact .lowerTimer _

theorem State.clockPeriod_moves : ChannelsMove s s.clockPeriod := by
  unfold State.clockPeriod
  repeat' split
  · exact .refl s
  · exact .of_chans_eq rfl
  · exact s.tick_moves

theorem State.expireTimer_moves (c : Chan) : ChannelsMove s (s.expireTimer c) := by
  unfold State.expireTimer
  split
  · exact s.flushBuffer_moves c
  · exact .refl s

/-- The uncommanded step takes every channel by moves. -/
theorem State.idle_moves : ChannelsMove s s.idle := by
  refine .unlessReset ?_
  split
  · exact s.portTake_moves _
  · exact s.clockPeriod_moves

/-! ## Commands -/

theorem State.stopTransaction_moves (c : Chan) : ChannelsMove s (s.stopTransaction c) := by
  simp only [State.stopTransaction]
  split
  · exact .refl s
  · refine (State.answer_moves ..).after ?_
    split
    · exact .of_chan_eq (s.abortWalk_chan c)
    all_goals exact .refl s

theorem State.discardBuffer_moves (c : Chan) : ChannelsMove s (s.discardBuffer c) := by
  have cleared (inv : InvQueue) : ChannelsMove s (({ s with inv := inv } : State).setBuffer c Buffer.cleared) :=
    .after (.setBuffer nofun) (.of_chans_eq rfl)
  simp only [State.discardBuffer]
  repeat' split
  · exact .refl s
  · exact .refl s
  · exact (State.grantPlace_moves _).after (cleared _)
  · exact cleared _
  · exact (State.grantPlace_moves _).after (cleared _)
  · exact cleared _

theorem State.stopTransaction_chan_self (c : Chan) :
    (s.stopTransaction c).chan c =
      { s.chan c with
        txn := ((s.stopTransaction c).chan c).txn, answers := ((s.stopTransaction c).chan c).answers } := by
  simp only [State.stopTransaction]
  split
  · simp
  · split <;> simp [State.abortWalk_chan]

/-- R70: an aborted channel leaves its state with its buffer not FILLING and its read-ahead line dropped. -/
theorem State.abortChannel_moves (c : Chan) : ChannelsMove s (s.abortChannel c).1 := by
  have aborted (h : (s.chan c).state ≠ .disabled) :
      ChannelsMove s (((s.stopTransaction c).discardBuffer c).modChan c fun ch =>
        { ch with state := .aborting, readAhead := none, lineRead := ch.lineRead.bind LineRead.aborted }) := by
    have base := (State.discardBuffer_moves (s.stopTransaction c) c).after (s.stopTransaction_moves c)
    refine .after (.setChan (.tail (.single (.leave _ .aborting ?_ fun _ => ?_)) (.traffic ..))) base
    · rw [State.discardBuffer_chan_self]
      dsimp only
      split
      · decide
      · next hb => exact fun hf => hb (.inl hf)
    · rw [State.discardBuffer_chan_self, State.stopTransaction_chan_self]
      exact h
  cases h : (s.chan c).state <;> simp only [State.abortChannel, h]
  case disabled | aborting => exact .refl s
  all_goals exact (State.settle_moves ..).after (aborted (by simp [h]))

theorem State.enableChannel_moves (c : Chan) : ChannelsMove s (s.enableChannel c).1 := by
  simp only [State.enableChannel]
  repeat' split
  · next hs hl => exact .modChan (f := fun ch => { ch with state := .active }) (.enable _ hs hl)
  · exact .refl s
  · exact .refl s

theorem State.resumeChannel_moves (c : Chan) : ChannelsMove s (s.resumeChannel c).1 := by
  simp only [State.resumeChannel]
  split
  · next h => exact .modChan (f := fun ch => { ch with state := .active }) (.resume _ h)
  · exact .refl s

theorem State.disableChannel_moves (c : Chan) : ChannelsMove s (s.disableChannel c).1 := by
  simp only [State.disableChannel]
  split
  · next h =>
    dsimp only
    exact (State.settle_moves ..).after (s.flushBuffer_leave_moves c .draining (by rcases h with h | h <;> simp [h]))
  · exact .refl s

theorem State.clearTags_chans : s.clearTags.1.chans = s.chans := by
  simp only [State.clearTags]
  split <;> rfl

theorem State.dispatchCommand_moves (n : CommandName) (channel : BitVec 4) (page : BitVec 14) :
    ChannelsMove s (s.dispatchCommand n channel page) := by
  have completed {t : State} {o : CmdOutcome} (h : ChannelsMove s t) :
      ChannelsMove s (t.completeCommand n channel page o) := .after (.of_chans_eq (State.completeCommand_chans ..)) h
  cases n with
  | chEnable => exact completed (s.enableChannel_moves _)
  | chDisable => exact completed (s.disableChannel_moves _)
  | chResume => exact completed (s.resumeChannel_moves _)
  | chAbort => exact completed (s.abortChannel_moves _)
  | tagsClear => exact completed (.of_chans_eq s.clearTags_chans)
  | xlatFlushPage | xlatFlushChannel | xlatFlushAll | xlatProbe => exact .of_chans_eq (State.claimPort_chans ..)

theorem State.command_moves (n : CommandName) (channel : BitVec 4) (page : BitVec 14) :
    ChannelsMove s (s.command n channel page) := by
  unfold State.command
  repeat' split
  · exact .of_chans_eq rfl
  · exact .of_chans_eq rfl
  · exact s.dispatchCommand_moves ..
  · exact .of_chans_eq rfl

theorem State.lookupService_moves : ChannelsMove s s.lookupService := by
  unfold State.lookupService
  split
  · exact (State.lookup_moves ..).after (.of_chans_eq rfl)
  · exact .refl s

theorem State.commandService_chans : s.commandService.chans = s.chans := by
  simp only [State.commandService, State.serveCommand]
  repeat' split
  all_goals rfl

theorem State.takeFill_chans (line : Word) (w : Way) : (s.takeFill line w).chans = s.chans := by
  unfold State.takeFill
  repeat' split
  all_goals rfl

theorem State.takeSweepStep_chans : s.takeSweepStep.chans = s.chans := by
  simp only [State.takeSweepStep]
  repeat' split
  all_goals rfl

/-! ## Resets -/

theorem State.chan_with_chans_map (f : Channel → Channel) (c : Chan) :
    ({ s with chans := s.chans.map f } : State).chan c = f (s.chan c) := by
  simp [State.chan]

/-- Every channel is changed by `f`: the channels move when each one's change is by moves. -/
theorem ChannelsMove.map {s t : State} {f : Channel → Channel} (h : t.chans = s.chans.map f)
    (m : ∀ ch, ChannelMoves ch (f ch)) : ChannelsMove s t := ⟨fun c => by
  rw [State.chan_of_chans (t := { s with chans := s.chans.map f }) h, State.chan_with_chans_map]
  exact m _⟩

theorem ChannelMoves.atRelease (ch : Channel) : ChannelMoves ch ch.atRelease := by
  unfold Channel.atRelease
  split
  · exact .refl
  · exact .single (.traffic ..)

/-- R79, R92: a soft reset leaves no buffer FILLING. -/
theorem ChannelMoves.softReset (ch : Channel) : ChannelMoves ch ch.softReset := by
  have kept : (if ch.buffer.state = .writing then ch.buffer else Buffer.cleared).state ≠ .filling := by
    split
    · next h => rw [h]; decide
    · decide
  exact ((Relation.ReflTransGen.single (.buffer ch _ fun hf => absurd hf kept)).tail
    (.leave _ .disabled kept fun hd => absurd rfl hd)).tail (.traffic ..)

theorem State.stopCommand_chans : s.stopCommand.chans = s.chans := by
  unfold State.stopCommand
  repeat' split
  all_goals rfl

theorem State.softReset_moves : ChannelsMove s s.softReset := by
  unfold State.softReset
  split
  · exact .refl s
  · exact (State.endResetting_moves _).after (.map (by simp [State.stopCommand_chans]) .softReset)

/-! ## The register window, and every command -/

theorem State.writeDescriptor_moves (c : Chan) (reg : DescReg) (value : Word) :
    ChannelsMove s (s.writeDescriptor c reg value) := by
  unfold State.writeDescriptor
  split
  · next h => exact .modChan (.descriptor _ reg value h)
  · exact .of_chans_eq rfl

theorem State.writeShadowControl_chans (mode : BitVec 2) (mask : BitVec 8) :
    (s.writeShadowControl mode mask).chans = s.chans := by
  unfold State.writeShadowControl
  split <;> rfl

theorem State.writeCommand_moves (value : Word) : ChannelsMove s (s.writeCommand value) := by
  simp only [State.writeCommand]
  repeat' split
  · exact s.command_moves ..
  · exact .of_chans_eq rfl
  · exact .of_chans_eq rfl

theorem State.writeReg_moves (r : Reg) (value : Word) : ChannelsMove s (s.writeReg r value) := by
  cases r with
  | ident | commandStatus | probeResult | shadowStatus | invalidateStatus | busStatus | faultHead0 | faultHead1
  | faultLogStatus | channelStatus => exact .refl s
  | timebase | globalStatus | intCause | intMask | channelOffSet | faultPop => exact .of_chans_eq rfl
  | resetControl =>
    simp only [State.writeReg]
    split
    · exact s.softReset_moves
    · exact .refl s
  | command => exact s.writeCommand_moves value
  | shadowControl => exact .of_chans_eq (s.writeShadowControl_chans ..)
  | desc c reg => exact s.writeDescriptor_moves c reg value

theorem State.windowWrite_moves (addr : Word) (lanes : BitVec 4) (value : Word) :
    ChannelsMove s (s.windowWrite addr lanes value) := by
  unfold State.windowWrite
  repeat' split
  · exact s.writeReg_moves ..
  · exact .refl s
  · exact .of_chans_eq rfl
  · exact .refl s

end

/-- Every command takes every channel by moves. -/
theorem exec_moves (i : Instr) (s t : State) (h : exec i s = .next t) : ChannelsMove s t := by
  have effect {f : State → State} (hf : ∀ s, ChannelsMove s (f s)) : ChannelsMove s (s.unlessReset f) :=
    .unlessReset (hf s)
  cases i <;> cases h
  case resetAssertion => exact effect fun s => .map rfl fun ch => .single (.powerOff ch)
  case resetRelease =>
    split
    · exact .map rfl .atRelease
    · exact .refl s
  case read | write | sync => exact s.present_moves ..
  case chEnable | chDisable | chResume | chAbort | xlatFlushPage | xlatFlushChannel | xlatFlushAll | xlatProbe
      | tagsClear => exact effect fun s => s.command_moves ..
  case lookupService => exact effect State.lookupService_moves
  case commandService => exact effect fun s => .of_chans_eq s.commandService_chans
  case busGrant => exact effect State.busGrant_moves
  case walkDataReturn | lineReadDataReturn | lineWriteAcknowledge | killAcknowledge | ignoredCompletion =>
    exact effect fun s => s.complete_moves _
  case observedWrite => exact effect fun s => s.observe_moves _
  case fill => exact effect fun s => .of_chans_eq (s.takeFill_chans ..)
  case sweepStep => exact effect fun s => .of_chans_eq s.takeSweepStep_chans
  case tick => exact effect State.tick_moves
  case idleTimerExpiry => exact effect fun s => s.expireTimer_moves _
  case softReset => exact effect State.softReset_moves
  case modeWrite => exact effect fun s => .of_chans_eq (s.writeShadowControl_chans ..)
  case descriptorWrite => exact effect fun s => s.writeDescriptor_moves ..
  case registerWrite => exact effect fun s => s.windowWrite_moves ..
  case faultPop | divisorWrite | wayMaskWrite | globalStatusClear | intCauseClear | channelOffClear | intMaskWrite =>
    exact effect fun _ => .of_chans_eq rfl

/-- A law of one channel that every move keeps is kept by every step. -/
theorem keptByStep_of_move {P : Channel → Prop} (keep : ∀ {a b}, ChannelMove a b → P a → P b) :
    KeptByStep fun s => ∀ c, P (s.chan c) := fun _ _ hs h =>
  step_keeps (P := fun s => ∀ c, P (s.chan c)) (fun _ _ h => h) (fun s h => s.idle_moves.keeps keep h)
    (fun i s t h he => (exec_moves i s t he).keeps keep h) hs h

/-- Settles O56: each of the four laws is a law of one channel that every move of a channel keeps. -/
theorem channelLawsKept : Obligations.ChannelLawsKept :=
  ⟨keptByStep_of_move ChannelMove.keeps_filling, keptByStep_of_move ChannelMove.keeps_readAhead,
    keptByStep_of_move ChannelMove.keeps_legal, keptByStep_of_move ChannelMove.keeps_origin⟩

end Sys2Proof.Machine
end

section
/-!
SUPPORT. What a request presented at a free port, a channel command and a descriptor write do (R6, R8, R14 to R16, R58,
R66, R67); and O8, O9, O12, O47 and O7, which are these facts and the values at reset.
-/

namespace Sys2Proof.Machine

/-! ## Requests at a port (R14 to R16, R58) -/

theorem State.takeRequest_of_accepted {s : State} {c : Chan} {r : Request} {access : Access} {addr : ChanAddr}
    {size : Size} (active : (s.chan c).state = .active) (running : s.bridge = .running) (hr : r.access? = some (access, addr, size)) :
    s.takeRequest c r = s.acceptAccess c r access addr size := by
  simp [State.takeRequest, active, running, hr]

/-- R14: a request that is not accepted is answered STOPPED. -/
theorem State.takeRequest_of_refused {s : State} {c : Chan} (r : Request)
    (h : (s.chan c).state ≠ .active ∨ s.bridge = .resetting) : s.takeRequest c r = s.answer c .stopped := by
  refine if_neg fun hn => ?_
  rcases h with h | h
  · exact h hn.1
  · rw [hn.2] at h; cases h

theorem aligned_iff (addr : ChanAddr) (size : Size) : aligned addr size = true ↔ addr.toNat % size.bytes = 0 := by
  simp [aligned]

theorem State.acceptAccess_of_misaligned {s : State} {c : Chan} {addr : ChanAddr} {size : Size}
    (h : addr.toNat % size.bytes ≠ 0) (r : Request) (access : Access) :
    s.acceptAccess c r access addr size = s.failTransaction c access addr .misaligned .fault :=
  if_pos (by simpa [aligned] using h)

theorem State.acceptAccess_of_outOfMap {s : State} {c : Chan} {addr : ChanAddr} {size : Size}
    (h : addr.toNat % size.bytes = 0) (out : (s.chan c).desc.mapLength.toNat ≤ addr.toNat / 2048) (r : Request)
    (access : Access) :
    s.acceptAccess c r access addr size = s.failTransaction c access addr .outOfMap .fault := by
  simp [State.acceptAccess, (aligned_iff addr size).mpr h, pageOf_toNat, out]

theorem State.acceptAccess_of_legal {s : State} {c : Chan} {addr : ChanAddr} {size : Size}
    (h : addr.toNat % size.bytes = 0) (inside : addr.toNat / 2048 < (s.chan c).desc.mapLength.toNat) (r : Request)
    (access : Access) :
    s.acceptAccess c r access addr size =
      s.modChan c fun ch =>
        { ch with txn := some { request := r, phase := .waitLookup, translation := none, writeErrorSeen := false } } := by
  simp [State.acceptAccess, (aligned_iff addr size).mpr h, pageOf_toNat, inside]

/-- R58: while a transaction is pending the port keeps the request it is presented with, `RESET#` held or not. -/
theorem State.present_of_pending {s : State} {c : Chan} (h : (s.chan c).txn ≠ none) (r : Request) :
    s.present c r = s.modChan c fun ch => { ch with held := ch.held ++ [r] } := by
  obtain ⟨x, hx⟩ := Option.ne_none_iff_exists'.mp h
  simp [State.present, State.unlessReset, State.portTake, hx]

/-- Settles O8: a request that is not accepted is answered STOPPED, and one behind a pending transaction is held. -/
theorem requestNotTaken : Obligations.RequestNotTaken := by
  refine ⟨fun c r s free refused => ?_, fun c r s _ pending => ?_⟩
  · have noTxn : (s.chan c).txn = none := free.2.1
    have keep : ({ s.chan c with txn := none } : Channel) = s.chan c := by rw [← noTxn]
    rw [exec_request, State.present_of_portFree free, State.takeRequest_of_refused r refused, State.answer_eq_setChan,
      State.modChan_eq_setChan]
    conv_rhs => rw [← keep]
  · rw [exec_request, State.present_of_pending pending]

/-- Settles O9: the alignment check, the map length check, and the entry into WAIT_LOOKUP, in this order. -/
theorem accessTaken : Obligations.AccessTaken := by
  have taken {c : Chan} {r : Request} {access : Access} {addr : ChanAddr} {size : Size} {s : State}
      (free : PortFree s c) (active : (s.chan c).state = .active) (running : s.bridge = .running)
      (hr : r.access? = some (access, addr, size)) :
      exec (r.instr c) s = .next (s.acceptAccess c r access addr size) := by
    rw [exec_request, State.present_of_portFree free, State.takeRequest_of_accepted active running hr]
  refine ⟨fun c r access addr size s free active running hr => ⟨fun misaligned => ?_, fun fits out => ?_⟩,
    fun c r access addr size s free active running hr fits inside => ?_⟩
  · rw [taken free active running hr, State.acceptAccess_of_misaligned misaligned]
    exact ⟨_, rfl, State.failTransaction_taken ..⟩
  · rw [taken free active running hr, State.acceptAccess_of_outOfMap fits out]
    exact ⟨_, rfl, State.failTransaction_taken ..⟩
  · rw [taken free active running hr, State.acceptAccess_of_legal fits inside]

/-! ## CH_ENABLE and CH_RESUME (R66, R67) -/

/-- A channel command that passes its tests is dispatched. -/
theorem State.channelCommand_of_ready {s : State} (ready : CommandReady s) {n : CommandName} {channel : BitVec 4}
    {c : Chan} (hc : channel.toNat = c.val) (hn : n.usesPage = false) (page : BitVec 14) :
    (s.unlessReset fun s => s.command n channel page) = s.dispatchCommand n channel page := by
  rw [State.unlessReset_of_not_held ready.1, State.command_of_ready ready (CommandName.operandsOk_of_channel hc hn)]

/-- Settles O12: the command unit hands the command to the channel, whose state and descriptor decide its outcome. -/
theorem chEnableAndResume : Obligations.ChEnableAndResume := by
  refine ⟨fun c channel page s ready hc => ?_, fun c channel page s ready hc => ?_⟩
  · have hexec : exec (.chEnable channel page) s =
        .next ((s.enableChannel c).1.completeCommand .chEnable channel page (s.enableChannel c).2) := by
      rw [exec_chEnable, State.channelCommand_of_ready ready hc rfl, State.dispatchCommand, chanOfOperand_eq hc]
    refine ⟨fun off legal => ?_, fun off illegal => ?_, fun on => ?_⟩
    · rw [hexec]; simp [State.enableChannel, off, (Descriptor.legal_iff _).mpr legal]
    · rw [hexec]; simp [State.enableChannel, off, mt (Descriptor.legal_iff _).mp illegal]
    · rw [hexec]; simp [State.enableChannel, on]
  · have hexec : exec (.chResume channel page) s =
        .next ((s.resumeChannel c).1.completeCommand .chResume channel page (s.resumeChannel c).2) := by
      rw [exec_chResume, State.channelCommand_of_ready ready hc rfl, State.dispatchCommand, chanOfOperand_eq hc]
    refine ⟨fun faulted => ?_, fun other => ?_⟩
    · rw [hexec]; simp [State.resumeChannel, faulted]
    · rw [hexec]; simp [State.resumeChannel, other]

/-! ## Descriptor writes (R3 to R6) -/

theorem Descriptor.write_mapOrigin (d : Descriptor) (value : Word) :
    d.write .mapOrigin value = { d with mapOrigin := BitVec.ofNat 32 (value.toNat / 64 * 64) } := by
  simp only [Descriptor.write, ← storedOrigin_toNat, BitVec.ofNat_toNat, BitVec.setWidth_eq]

theorem Descriptor.write_mapLength (d : Descriptor) (value : Word) :
    d.write .mapLength value = { d with mapLength := BitVec.ofNat 14 value.toNat } := by
  simp [Descriptor.write, BitVec.extractLsb']

theorem Descriptor.write_channelSettings (d : Descriptor) (value : Word) :
    d.write .channelSettings value =
      { d with
        quota := BitVec.ofNat 5 value.toNat
        idleTimeout := BitVec.ofNat 8 (value.toNat / 256)
        readAhead := value.getLsbD 16 } := by
  simp [Descriptor.write, BitVec.extractLsb', Nat.shiftRight_eq_div_pow]

/-- Settles O47: the write is taken in DISABLED, field by field, and reported by DESC_IGNORED elsewhere. -/
theorem descriptorWrite : Obligations.DescriptorWrite := by
  intro c value s released
  have hexec (reg : DescReg) : exec (.descriptorWrite c reg value) s = .next (s.writeDescriptor c reg value) := by
    rw [exec_descriptorWrite, State.unlessReset_of_not_held released]
  refine ⟨fun off => ?_, fun on reg => ?_⟩
  · have stored (reg : DescReg) : exec (.descriptorWrite c reg value) s =
        .next (s.modChan c fun ch => { ch with desc := ch.desc.write reg value }) := by
      rw [hexec, State.writeDescriptor, if_pos off]
    simp only [stored, Descriptor.write_mapOrigin, Descriptor.write_mapLength, Descriptor.write_channelSettings,
      and_self]
  · rw [hexec, State.writeDescriptor, if_neg on, State.raiseDescIgnored]

/-! ## Reset -/

theorem State.reset_chan (c : Chan) : State.reset.chan c = Channel.powerOn := by
  simp [State.reset, State.chan]

/-- R100: power-on leaves no fresh mark, whatever the entries hold. -/
theorem powerOnSets_fresh {epoch : Nat} {set : Fin 256} {way : Way} {e : ShadowEntry}
    (h : (powerOnSets epoch)[set][way] = some e) : e.fresh = false := by
  simp only [powerOnSets, Fin.getElem_fin, Vector.getElem_ofFn, Option.map_eq_some_iff] at h
  obtain ⟨tag, -, rfl⟩ := h
  rfl

/-- Settles O7: each value is the power-on value of its block. -/
theorem resetValues : Obligations.ResetValues := by
  refine ⟨fun c => ?_, ?_, rfl, rfl, rfl, ?_, rfl, rfl, rfl, rfl, rfl, fun set way e h => powerOnSets_fresh h, rfl, rfl,
    rfl, rfl, rfl, rfl, rfl, rfl, rfl, rfl, rfl, rfl, rfl, rfl, rfl, rfl⟩
  · rw [State.reset_chan]
    exact ⟨rfl, rfl, rfl, rfl, rfl, rfl⟩
  · intro i; simp [State.reset, Tc.powerOn]
  · intro i; simp [State.reset, WalkUnit.powerOn]

end Sys2Proof.Machine
end

section
/-!
SUPPORT. What the registers read, as numbers (R165, R167, R176, R177, R179): a word put together from disjoint fields is
the sum of the fields at their places; the register a window address reaches; and O51.
-/

namespace Sys2Proof.Machine

/-! ## Words put together from fields -/

/-- The word has the value `n`, a multiple of `2 ^ lsb`: its fields stand at bit `lsb` and above. -/
structure WordFields (w : Word) (lsb n : Nat) : Prop where
  toNat_eq : w.toNat = n
  dvd : 2 ^ lsb ∣ n

/-- A lower group of fields joins a word whose fields stand above it. -/
theorem WordFields.or {w x : Word} {i j m n : Nat} (hw : WordFields w i n) (hx : WordFields x j m) (below : m < 2 ^ i)
    (hji : j ≤ i) : WordFields (w ||| x) j (n + m) := by
  obtain ⟨a, rfl⟩ := hw.dvd
  refine ⟨?_, Nat.dvd_add (Nat.dvd_mul_right_of_dvd (Nat.pow_dvd_pow 2 hji) a) hx.dvd⟩
  rw [BitVec.toNat_or, hw.toNat_eq, hx.toNat_eq, Nat.two_pow_add_eq_or_of_lt below]

theorem WordFields.fieldAt (v lsb : Nat) (h : v * 2 ^ lsb < 2 ^ 32) : WordFields (fieldAt v lsb) lsb (v * 2 ^ lsb) := by
  refine ⟨?_, Nat.dvd_mul_left ..⟩
  have : v < 2 ^ 32 := Nat.lt_of_le_of_lt (Nat.le_mul_of_pos_right v (Nat.two_pow_pos lsb)) h
  rw [Machine.fieldAt, BitVec.toNat_shiftLeft, BitVec.toNat_ofNat, Nat.mod_eq_of_lt this, Nat.shiftLeft_eq,
    Nat.mod_eq_of_lt h]

theorem bitAt_eq_fieldAt (b : Bool) (lsb : Nat) : bitAt b lsb = fieldAt b.toNat lsb := by
  cases b <;> simp [bitAt, fieldAt]

theorem Bool.toNat_mul_pow_lt (b : Bool) {i j : Nat} (h : i < j) : b.toNat * 2 ^ i < 2 ^ j :=
  calc b.toNat * 2 ^ i ≤ 1 * 2 ^ i := Nat.mul_le_mul_right _ (Bool.toNat_le b)
    _ < 2 ^ j := by rw [Nat.one_mul]; exact Nat.pow_lt_pow_right Nat.one_lt_two h

theorem WordFields.bitAt (b : Bool) (lsb : Nat) (h : lsb < 32) : WordFields (bitAt b lsb) lsb (b.toNat * 2 ^ lsb) := by
  rw [bitAt_eq_fieldAt]
  exact .fieldAt _ _ (Bool.toNat_mul_pow_lt b h)

/-- One more field below. -/
theorem WordFields.field {w : Word} {i n : Nat} (hw : WordFields w i n) (v lsb : Nat)
    (h : v * 2 ^ lsb < 2 ^ i ∧ lsb ≤ i ∧ i ≤ 32) : WordFields (w ||| Machine.fieldAt v lsb) lsb (n + v * 2 ^ lsb) :=
  hw.or (.fieldAt v lsb (Nat.lt_of_lt_of_le h.1 (Nat.pow_le_pow_right Nat.two_pos h.2.2))) h.1 h.2.1

/-- One more one-bit field below. -/
theorem WordFields.bit {w : Word} {i n : Nat} (hw : WordFields w i n) (b : Bool) (lsb : Nat) (h : lsb < i ∧ i ≤ 32) :
    WordFields (w ||| Machine.bitAt b lsb) lsb (n + b.toNat * 2 ^ lsb) := by
  rw [bitAt_eq_fieldAt]
  exact hw.field _ lsb ⟨Bool.toNat_mul_pow_lt b h.1, h.1.le, h.2⟩

theorem getLsbD_iff_toNat (w : Word) (i : Nat) : w.getLsbD i = true ↔ w.toNat / 2 ^ i % 2 = 1 := by
  rw [← BitVec.testBit_toNat, Nat.testBit_eq_decide_div_mod_eq, decide_eq_true_iff]

/-! ## The registers' words -/

theorem Sticky.word_toNat (f : Sticky) :
    f.word.toNat = f.fillWay.toNat + f.killFail.toNat * 2 + f.descIgnored.toNat * 4 + f.cmdOverrun.toNat * 8
      + f.badWrite.toNat * 16 := by
  obtain ⟨a, b, c, d, e⟩ := f
  revert a b c d e
  decide

theorem causeWord_toNat (a b c d e f : Bool) :
    (((bitAt a 0 ||| bitAt b 1 ||| bitAt c 2 ||| bitAt d 3 ||| bitAt e 4 ||| bitAt f 5).setWidth 6).setWidth 32).toNat =
      a.toNat + b.toNat * 2 + c.toNat * 4 + d.toNat * 8 + e.toNat * 16 + f.toNat * 32 := by
  revert a b c d e f
  decide

theorem State.readReg_intCause_toNat (s : State) :
    (s.readReg .intCause).toNat =
      (if s.log.records = [] then 0 else 1) + s.ints.logOverflow.toNat * 2 + s.ints.coherence.toNat * 4
        + s.ints.cmdDone.toNat * 8 + (if s.ints.channelOff = 0 then 0 else 16) + s.ints.sweepDone.toNat * 32 := by
  have log : s.faultPending.toNat = if s.log.records = [] then 0 else 1 := by
    cases h : s.log.records <;> simp [State.faultPending, h]
  have off : s.channelOffCause.toNat * 16 = if s.ints.channelOff = 0 then 0 else 16 := by
    by_cases h : s.ints.channelOff = 0
    · simp [State.channelOffCause, h]
    · rw [State.channelOffCause, bne_iff_ne.mpr h, if_neg h]; rfl
  rw [← log, ← off]
  exact causeWord_toNat ..

theorem CommandUnit.word_toNat (u : CommandUnit) :
    u.word.toNat = u.page.toNat * 2 ^ 16 + u.channel.toNat * 2 ^ 12 + u.outcome.code * 2 ^ 8
      + commandCode u.command * 2 ^ 4 + u.busy.toNat := by
  have page := u.page.isLt
  have channel := u.channel.isLt
  have outcome : u.outcome.code ≤ 4 := by cases u.outcome <;> decide
  have command : commandCode u.command ≤ 9 := by
    rcases u.command with _ | n
    · decide
    · cases n <;> decide
  have fields :=
    WordFields.fieldAt u.page.toNat 16 (by omega) |>.field u.channel.toNat 12 (by omega)
      |>.field u.outcome.code 8 (by omega) |>.field (commandCode u.command) 4 (by omega)
      |>.bit u.busy 0 (by omega)
  exact fields.toNat_eq.trans (by omega)

theorem ProbeResult.word_toNat (p : ProbeResult) :
    p.word.toNat = p.xlat.frame.toNat * 2 ^ 11 + p.entry.val * 2 ^ 4 + p.xlat.coh.toNat * 8 + p.xlat.wr.toNat * 4
      + p.xlat.rd.toNat * 2 + p.hit.toNat := by
  have frame := p.xlat.frame.isLt
  have entry := p.entry.isLt
  have fields :=
    WordFields.fieldAt p.xlat.frame.toNat 11 (by omega) |>.field p.entry.val 4 (by omega)
      |>.bit p.xlat.coh 3 (by omega) |>.bit p.xlat.wr 2 (by omega) |>.bit p.xlat.rd 1 (by omega)
      |>.bit p.hit 0 (by omega)
  exact fields.toNat_eq.trans (by omega)

theorem ShadowMode.code_le (m : ShadowMode) : m.code ≤ 2 := by cases m <;> decide

theorem Shadow.controlWord_toNat (sh : Shadow) :
    sh.controlWord.toNat = sh.wayMask.toNat * 2 ^ 8 + sh.mode.code := by
  have mask := sh.wayMask.isLt
  have mode := sh.mode.code_le
  have fields :=
    WordFields.fieldAt sh.wayMask.toNat 8 (by omega) |>.field sh.mode.code 0 (by omega)
  exact fields.toNat_eq.trans (by omega)

theorem Shadow.statusWord_toNat (sh : Shadow) (h : sh.pointer ≤ 256) :
    sh.statusWord.toNat = sh.pointer * 2 ^ 16 + (if sh.state = .clearing then 4 else 0)
      + (sh.wayMask.toNat * 2 ^ 8 + sh.mode.code) := by
  have mask := sh.wayMask.isLt
  have mode := sh.mode.code_le
  have reorder : sh.statusWord =
      fieldAt sh.pointer 16 ||| fieldAt sh.wayMask.toNat 8 ||| bitAt (sh.state == .clearing) 2
        ||| fieldAt sh.mode.code 0 := by
    rw [Shadow.statusWord, Shadow.controlWord, ← BitVec.or_assoc, BitVec.or_assoc _ (fieldAt sh.mode.code 0),
      BitVec.or_comm (fieldAt sh.mode.code 0), ← BitVec.or_assoc]
  have fields :=
    WordFields.fieldAt sh.pointer 16 (by omega) |>.field sh.wayMask.toNat 8 (by omega)
      |>.bit (sh.state == .clearing) 2 (by omega) |>.field sh.mode.code 0 (by omega)
  have clearing : (sh.state == .clearing).toNat = if sh.state = .clearing then 1 else 0 := by cases sh.state <;> rfl
  rw [reorder, fields.toNat_eq, clearing]
  split <;> omega

theorem Cause.code_le (x : Cause) : x.code ≤ 8 := by cases x <;> decide

theorem FaultRecord.word0_toNat (r : FaultRecord) :
    r.word0.toNat = 2 ^ 31 + r.cause.code * 2 ^ 12 + (if r.access = .write then 2 ^ 11 else 0) + r.chan.val * 2 ^ 8
      + r.seq.toNat := by
  have cause := r.cause.code_le
  have chan := r.chan.isLt
  have seq := r.seq.isLt
  have fields (a : Nat) (ha : a ≤ 1) :=
    WordFields.fieldAt 1 31 (by omega) |>.field r.cause.code 12 (by omega) |>.field a 11 (by omega)
      |>.field r.chan.val 8 (by omega) |>.field r.seq.toNat 0 (by omega)
  unfold FaultRecord.word0
  cases r.access with
  | read => rw [(fields 0 (by decide)).toNat_eq]; simp
  | write => rw [(fields 1 (by decide)).toNat_eq]; simp

theorem Descriptor.word_channelSettings_toNat (d : Descriptor) :
    (d.word .channelSettings).toNat = d.readAhead.toNat * 2 ^ 16 + d.idleTimeout.toNat * 2 ^ 8 + d.quota.toNat := by
  have timeout := d.idleTimeout.isLt
  have quota := d.quota.isLt
  have fields :=
    WordFields.bitAt d.readAhead 16 (by omega) |>.field d.idleTimeout.toNat 8 (by omega)
      |>.field d.quota.toNat 0 (by omega)
  exact fields.toNat_eq.trans (by omega)

theorem Reservation.code_le (r : Reservation) : r.code ≤ 2 := by cases r <;> decide

theorem BufState.code_le (b : BufState) : b.code ≤ 3 := by cases b <;> decide

theorem ChState.code_le (x : ChState) : x.code ≤ 4 := by cases x <;> decide

theorem Phase.code_le (p : Phase) : p.code ≤ 4 := by cases p <;> decide

theorem Request.code_le (r : Request) : r.code ≤ 2 := by cases r <;> simp [Request.code]

/-- R177: CHANNEL_STATUS around the fields of the pending transaction. -/
theorem Channel.statusFields (ch : Channel) {txn : Word} {n : Nat} (h : WordFields txn 4 n) (hn : n < 2 ^ 12) :
    (fieldAt ch.buffer.reservation.code 14 ||| fieldAt ch.buffer.state.code 12 ||| txn ||| fieldAt ch.state.code 0).toNat =
      ch.buffer.reservation.code * 2 ^ 14 + ch.buffer.state.code * 2 ^ 12 + n + ch.state.code := by
  have reservation := ch.buffer.reservation.code_le
  have buffer := ch.buffer.state.code_le
  have state := ch.state.code_le
  have fields :=
    WordFields.fieldAt ch.buffer.reservation.code 14 (by omega) |>.field ch.buffer.state.code 12 (by omega)
      |>.or h hn (by omega) |>.field ch.state.code 0 (by omega)
  exact fields.toNat_eq.trans (by omega)

theorem Channel.statusWord_toNat_of_no_transaction {ch : Channel} (h : ch.txn = none) :
    ch.statusWord.toNat = ch.buffer.reservation.code * 2 ^ 14 + ch.buffer.state.code * 2 ^ 12 + 0 + ch.state.code := by
  simp only [Channel.statusWord, h]
  exact ch.statusFields ⟨rfl, Nat.dvd_zero _⟩ (by decide)

theorem Channel.statusWord_toNat_of_pending {ch : Channel} {x : Transaction} (h : ch.txn = some x) :
    ch.statusWord.toNat = ch.buffer.reservation.code * 2 ^ 14 + ch.buffer.state.code * 2 ^ 12
      + (x.phase.code * 2 ^ 8 + x.request.code * 2 ^ 5 + 2 ^ 4) + ch.state.code := by
  have phase := x.phase.code_le
  have request := x.request.code_le
  have fields :=
    WordFields.fieldAt x.phase.code 8 (by omega) |>.field x.request.code 5 (by omega) |>.field 1 4 (by omega)
  simp only [Channel.statusWord, h]
  exact ch.statusFields fields (by omega)

/-! ## BUS_STATUS and INVALIDATE_STATUS (R122, R138, R176) -/

theorem BusMaster.walks_eq (b : BusMaster) :
    b.walks = (b.cycles.filter fun k => ∃ i, k.requester = .walk i).length := by
  rw [BusMaster.walks, List.countP_eq_length_filter]
  congr 2
  funext k
  cases k.requester <;> simp

theorem BusMaster.reads_eq (b : BusMaster) :
    b.reads = (b.cycles.filter fun k => ∃ c, k.requester = .read c).length := by
  rw [BusMaster.reads, List.countP_eq_length_filter]
  congr 2
  funext k
  cases k.requester <;> simp

theorem BusMaster.writes_eq (b : BusMaster) :
    b.writes = (b.cycles.filter fun k => ∃ c, k.requester = .write c).length := by
  rw [BusMaster.writes, List.countP_eq_length_filter]
  congr 2
  funext k
  cases k.requester <;> simp

theorem BusMaster.kills_eq (b : BusMaster) : b.kills = (b.cycles.filter fun k => k.requester = .kill).length := by
  rw [BusMaster.kills, List.countP_eq_length_filter]
  rfl

/-- Each outstanding cycle is of one of the four kinds. -/
theorem BusMaster.sum_kinds (b : BusMaster) : b.walks + b.reads + b.writes + b.kills = b.cycles.length := by
  simp only [BusMaster.walks, BusMaster.reads, BusMaster.writes, BusMaster.kills]
  induction b.cycles with
  | nil => rfl
  | cons k rest ih =>
    simp only [List.countP_cons, List.length_cons, ← ih]
    cases k.requester <;> simp <;> omega

theorem BusMaster.not_onlyKills_iff (b : BusMaster) : (!b.onlyKills) = true ↔ ∃ k ∈ b.cycles, k.requester ≠ .kill := by
  simp [BusMaster.onlyKills]

theorem BusMaster.onlyKills_iff_kills (b : BusMaster) : b.onlyKills = true ↔ b.kills = b.cycles.length := by
  simp [BusMaster.onlyKills, BusMaster.kills, List.countP_eq_length]

theorem BusMaster.word_toNat (b : BusMaster) (h : b.cycles.length ≤ 4) :
    b.word.toNat = (!b.onlyKills).toNat * 2 ^ 24 + b.kills * 2 ^ 16 + b.writes * 2 ^ 12 + b.reads * 2 ^ 8
      + b.walks * 2 ^ 4 + b.cycles.length := by
  have sum := b.sum_kinds
  have fields :=
    WordFields.bitAt (!b.onlyKills) 24 (by omega) |>.field b.kills 16 (by omega) |>.field b.writes 12 (by omega)
      |>.field b.reads 8 (by omega) |>.field b.walks 4 (by omega) |>.field b.cycles.length 0 (by omega)
  exact fields.toNat_eq.trans (by omega)

theorem State.invalidateWord_toNat (s : State) (places : PlacesLaw s) (waiters : s.inv.waiters.length ≤ 8) :
    s.invalidateWord.toNat = (s.inv.entries.head?.any fun e => e.issued).toNat * 2 ^ 16 + s.inv.waiters.length * 2 ^ 8
      + s.reservations * 2 ^ 4 + s.inv.entries.length := by
  have bound : s.inv.entries.length + s.reservations ≤ 8 := places
  have fields :=
    WordFields.bitAt (s.inv.entries.head?.any fun e => e.issued) 16 (by omega)
      |>.field s.inv.waiters.length 8 (by omega) |>.field s.reservations 4 (by omega)
      |>.field s.inv.entries.length 0 (by omega)
  exact fields.toNat_eq.trans (by omega)

/-! ## Reads of the window (R164, R165, R167) -/

theorem WindowBaseLaw.toNat_le {s : State} (h : WindowBaseLaw s) : s.windowBase.toNat + 0x1000 ≤ 2 ^ 32 := by
  obtain ⟨a, b, hb⟩ := h
  rw [hb]
  clear hb
  revert a b
  decide

/-- R164: a 4-byte read inside the window reads the register at its offset. -/
theorem State.windowRead_of_regAt {s : State} (released : s.resetHeld = false) (base : WindowBaseLaw s) {offset : Nat}
    {r : Reg} (inside : offset < 0x1000) (word : offset % 4 = 0) (hr : regAt offset = some r) :
    s.windowRead (s.windowBase + BitVec.ofNat 32 offset) 0xF = some (s.readReg r) := by
  have top := base.toNat_le
  have address : (s.windowBase + BitVec.ofNat 32 offset).toNat = s.windowBase.toNat + offset := by
    rw [BitVec.toNat_add, BitVec.toNat_ofNat]; omega
  have inWindow : s.inWindow (s.windowBase + BitVec.ofNat 32 offset) = true := by
    simp [State.inWindow, address, inside]
  have atOffset : s.offsetOf (s.windowBase + BitVec.ofNat 32 offset) = offset := by
    rw [State.offsetOf, address]; omega
  have whole : laneMask 0xF = BitVec.allOnes 32 := by decide
  have lanes : s.windowRead (s.windowBase + BitVec.ofNat 32 offset) 0xF = some (s.readReg r &&& laneMask 0xF) := by
    simp [State.windowRead, released, inWindow, atOffset, hr]
  rw [lanes, whole, BitVec.and_allOnes]

/-- R167: the four registers of each channel. -/
theorem regAt_channel (c : Chan) :
    regAt (0x100 + 0x10 * c.val) = some (.desc c .mapOrigin) ∧ regAt (0x104 + 0x10 * c.val) = some (.desc c .mapLength) ∧
      regAt (0x108 + 0x10 * c.val) = some (.desc c .channelSettings) ∧
      regAt (0x10C + 0x10 * c.val) = some (.channelStatus c) := by
  revert c
  decide

/-! ## The codes of the tables (R179) -/

theorem ShadowMode.code_eq (m : ShadowMode) : m.code = [ShadowMode.off, .track, .broadcast].idxOf m := by
  cases m <;> rfl

theorem CmdOutcome.code_eq (o : CmdOutcome) :
    o.code = [CmdOutcome.ok, .wrongState, .badDesc, .badOperand, .resetting].idxOf o := by
  cases o <;> rfl

theorem commandCode_eq (n : Option CommandName) :
    commandCode n =
      [none, some CommandName.chEnable, some .chDisable, some .chResume, some .chAbort, some .xlatFlushPage,
        some .xlatFlushChannel, some .xlatFlushAll, some .xlatProbe, some .tagsClear].idxOf n := by
  rcases n with _ | n
  · rfl
  · cases n <;> rfl

theorem Cause.code_eq (x : Cause) :
    x.code = [Cause.notValid, .noRead, .noWrite, .outOfMap, .misaligned, .mapBusErr, .readBusErr, .writeBusErr].idxOf x
      + 1 := by
  cases x <;> rfl

theorem Reservation.code_eq (r : Reservation) : r.code = [Reservation.none, .held, .waiting].idxOf r := by
  cases r <;> rfl

theorem BufState.code_eq (b : BufState) : b.code = [BufState.empty, .filling, .pending, .writing].idxOf b := by
  cases b <;> rfl

theorem Phase.code_eq (p : Phase) :
    p.code = [Phase.waitLookup, .waitWalk, .waitBuffer, .waitRead, .waitSync].idxOf p := by
  cases p <;> rfl

theorem ChState.code_eq (x : ChState) :
    x.code = [ChState.disabled, .active, .faulted, .draining, .aborting].idxOf x := by
  cases x <;> rfl

/-! ## The views -/

/-- R179: the fields of a word laid out as BUS_STATUS, and the bits between them. -/
theorem busStatus_fields {n flag kills writes reads walks total : Nat}
    (value : n = flag * 2 ^ 24 + kills * 2 ^ 16 + writes * 2 ^ 12 + reads * 2 ^ 8 + walks * 2 ^ 4 + total)
    (hflag : flag ≤ 1) (hkills : kills < 8) (hwrites : writes < 8) (hreads : reads < 8) (hwalks : walks < 8)
    (htotal : total < 8) :
    (n % 8 = total ∧ n / 16 % 8 = walks ∧ n / 256 % 8 = reads ∧ n / 4096 % 8 = writes ∧ n / 65536 % 8 = kills ∧
        n / 2 ^ 24 % 2 = flag) ∧
      n / 8 % 2 = 0 ∧ n / 128 % 2 = 0 ∧ n / 2048 % 2 = 0 ∧ n / 32768 % 2 = 0 ∧ n / 2 ^ 19 % 2 ^ 5 = 0 ∧
      n / 2 ^ 25 = 0 := by
  omega

/-- R179: the fields of a word laid out as INVALIDATE_STATUS, and the bits between them. -/
theorem invalidateStatus_fields {n flag waiters reservations entries : Nat}
    (value : n = flag * 2 ^ 16 + waiters * 2 ^ 8 + reservations * 2 ^ 4 + entries) (hflag : flag ≤ 1)
    (hwaiters : waiters < 16) (hreservations : reservations < 16) (hentries : entries < 16) :
    (n % 16 = entries ∧ n / 16 % 16 = reservations ∧ n / 256 % 16 = waiters ∧ n / 2 ^ 16 % 2 = flag) ∧
      n / 2 ^ 12 % 2 ^ 4 = 0 ∧ n / 2 ^ 17 = 0 := by
  omega

theorem headIssued_iff (entries : List InvEntry) :
    (entries.head?.any fun e => e.issued) = true ↔ ∃ e rest, entries = e :: rest ∧ e.issued = true := by
  cases entries <;> simp

/-- R176: the non-KILL field is set exactly while a WALK, READ or WRITE is outstanding. -/
theorem BusMaster.not_onlyKills_iff_pos (b : BusMaster) :
    (!b.onlyKills) = true ↔ 0 < b.walks + b.reads + b.writes := by
  have sum := b.sum_kinds
  rw [Bool.not_eq_true', ← Bool.not_eq_true, b.onlyKills_iff_kills]
  omega

theorem fieldAt_zero_toNat {v : Nat} (h : v < 2 ^ 32) : (fieldAt v 0).toNat = v :=
  (WordFields.fieldAt v 0 (by omega)).toNat_eq.trans (by omega)

theorem State.readReg_resetControl_toNat (s : State) :
    (s.readReg .resetControl).toNat = if s.bridge = .resetting then 1 else 0 := by
  cases h : s.bridge <;> simp [State.readReg, h, bitAt]

theorem SweepPointerLaw.pointer_le {s : State} (h : SweepPointerLaw s) : s.shadow.pointer ≤ 256 := by
  unfold SweepPointerLaw at h
  split at h <;> omega

theorem State.readReg_faultLogStatus_toNat {s : State} (h : FaultLogLaw s) :
    (s.readReg .faultLogStatus).toNat = s.log.nextSeq.toNat * 2 ^ 8 + s.log.records.length := by
  have seq := s.log.nextSeq.isLt
  have few : s.log.records.length ≤ 8 := h
  have fields :=
    WordFields.fieldAt s.log.nextSeq.toNat 8 (by omega) |>.field s.log.records.length 0 (by omega)
  exact fields.toNat_eq.trans (by omega)

/-- Settles O51: each register's word as the sum of its fields, and the register each window offset reaches. -/
theorem statusViews : Obligations.StatusViews := by
  refine ⟨fun s => ⟨fun outstanding => ?_, fun places waiters => ?_⟩, fun s released base => ?_⟩
  · have sum := s.bus.sum_kinds
    have bound := outstanding.1
    obtain ⟨⟨total, walks, reads, writes, kills, flag⟩, unused⟩ :=
      busStatus_fields (s.bus.word_toNat outstanding.1) (Bool.toNat_le _) (by omega) (by omega) (by omega) (by omega)
        (by omega)
    simp only [State.readReg, getLsbD_iff_toNat, total, walks, reads, writes, kills, flag, unused, Bool.toNat_eq_one,
      ← BusMaster.walks_eq, ← BusMaster.reads_eq, ← BusMaster.writes_eq, ← BusMaster.kills_eq,
      ← BusMaster.not_onlyKills_iff, s.bus.not_onlyKills_iff_pos, and_self, and_true, true_and]
    omega
  · have bound : s.inv.entries.length + s.reservations ≤ 8 := places
    obtain ⟨⟨entries, reservations, waiting, flag⟩, unused⟩ :=
      invalidateStatus_fields (s.invalidateWord_toNat places waiters) (Bool.toNat_le _) (by omega) (by omega) (by omega)
    simp only [State.readReg, getLsbD_iff_toNat, entries, reservations, waiting, flag, unused, Bool.toNat_eq_one,
      headIssued_iff, and_self, bound]
  · have reads {offset n : Nat} (r : Reg) (value : (s.readReg r).toNat = n) (hr : regAt offset = some r)
        (inside : offset < 0x1000 ∧ offset % 4 = 0) :
        (s.windowRead (s.windowBase + BitVec.ofNat 32 offset) 0xF).map BitVec.toNat = some n := by
      rw [State.windowRead_of_regAt released base inside.1 inside.2 hr, Option.map_some, value]
    dsimp only
    rw [← ShadowMode.code_eq, ← CmdOutcome.code_eq, ← commandCode_eq]
    refine ⟨reads .resetControl s.readReg_resetControl_toNat rfl (by decide),
      reads .timebase (fieldAt_zero_toNat (by omega)) rfl (by decide),
      reads .globalStatus s.sticky.word_toNat rfl (by decide), reads .intCause s.readReg_intCause_toNat rfl (by decide),
      reads .intMask (BitVec.toNat_setWidth_of_le (by decide)) rfl (by decide),
      reads .channelOffSet (BitVec.toNat_setWidth_of_le (by decide)) rfl (by decide), reads .command rfl rfl (by decide),
      reads .faultPop rfl rfl (by decide), reads .commandStatus s.cmd.word_toNat rfl (by decide),
      reads .probeResult s.tc.probe.word_toNat rfl (by decide),
      reads .shadowControl s.shadow.controlWord_toNat rfl (by decide),
      fun sweep => reads .shadowStatus (s.shadow.statusWord_toNat sweep.pointer_le) rfl (by decide),
      reads .invalidateStatus rfl rfl (by decide), reads .busStatus rfl rfl (by decide),
      fun empty => ⟨reads .faultHead0 ?_ rfl (by decide), reads .faultHead1 ?_ rfl (by decide)⟩,
      fun r rest head => ⟨reads .faultHead0 ?_ rfl (by decide), reads .faultHead1 ?_ rfl (by decide)⟩,
      fun few => reads .faultLogStatus (State.readReg_faultLogStatus_toNat few) rfl (by decide), fun c => ?_⟩
    · simp [State.readReg, empty]
    · simp [State.readReg, empty]
    · rw [← Cause.code_eq, ← r.word0_toNat]
      simp [State.readReg, head]
    · simp only [State.readReg, head, List.head?_cons, Option.map_some, Option.getD_some]
      exact fieldAt_zero_toNat (by omega)
    · obtain ⟨origin, length, settings, status⟩ := regAt_channel c
      have inside := c.isLt
      refine ⟨reads _ rfl origin (by omega),
        reads (.desc c .mapLength) (fieldAt_zero_toNat (by omega)) length (by omega),
        reads (.desc c .channelSettings) (Descriptor.word_channelSettings_toNat _) settings (by omega),
        reads _ ?_ status (by omega)⟩
      rw [← Reservation.code_eq, ← BufState.code_eq, ← ChState.code_eq]
      cases h : (s.chan c).txn with
      | none => exact Channel.statusWord_toNat_of_no_transaction h
      | some x =>
        dsimp only
        rw [← Phase.code_eq]
        exact Channel.statusWord_toNat_of_pending h

end Sys2Proof.Machine
end

section
/-!
SUPPORT. What the permission check of an access leads to (R17, R62, R81, R82, R94), in every channel and buffer state:
the merge of a WRITE, the relations `WriteReached` and `PermissionChecked` of the model, and what all outcomes leave alike.
-/

namespace Sys2Proof.Machine

/-! ## The merge of a WRITE (R81, R82) -/

theorem WriteData.length_toList (data : WriteData) : data.toList.length = data.size.bytes := by
  cases data <;> rfl

theorem getElem_placeBytes (d : LineData) (pos : BitVec 4) (bytes : List Byte) (k : Fin 16) :
    (placeBytes d pos bytes)[k] = if pos.toNat ≤ k.val then (bytes[k.val - pos.toNat]?).getD d[k] else d[k] := by
  simp [placeBytes]

/-- R82: inside the access the placed bytes stand, in address order. -/
theorem getElem?_eq_placeBytes {d : LineData} {pos : BitVec 4} {bytes : List Byte} {k : Fin 16} (low : pos.toNat ≤ k.val)
    (high : k.val < pos.toNat + bytes.length) : bytes[k.val - pos.toNat]? = some (placeBytes d pos bytes)[k] := by
  have inside : k.val - pos.toNat < bytes.length := by omega
  rw [getElem_placeBytes, if_pos low, List.getElem?_eq_getElem inside, Option.getD_some]

/-- R82: outside the access the line's bytes stay. -/
theorem getElem_placeBytes_of_outside {d : LineData} {pos : BitVec 4} {bytes : List Byte} {k : Fin 16}
    (outside : ¬ (pos.toNat ≤ k.val ∧ k.val < pos.toNat + bytes.length)) : (placeBytes d pos bytes)[k] = d[k] := by
  rw [getElem_placeBytes]
  split
  · next low =>
    rw [List.getElem?_eq_none (by omega), Option.getD_none]
  · rfl

theorem getElem_placeMask_iff (m : Vector Bool 16) (pos : BitVec 4) (n : Nat) (k : Fin 16) :
    (placeMask m pos n)[k] = true ↔ (pos.toNat ≤ k.val ∧ k.val < pos.toNat + n) ∨ m[k] = true := by
  simp [placeMask, or_comm]

theorem maskFull_iff (m : Vector Bool 16) : maskFull m = true ↔ ∀ k : Fin 16, m[k] = true := by
  simp only [maskFull, List.all_eq_true, id, Vector.mem_toList_iff]
  constructor
  · exact fun h k => h _ (Vector.getElem_mem k.isLt)
  · rintro h b hb
    obtain ⟨i, hi, rfl⟩ := Vector.getElem_of_mem hb
    exact h ⟨i, hi⟩

/-- The buffer a WRITE merges into: the one it opens, or the FILLING one as it is. -/
def Buffer.mergeBase (b : Buffer) (tr : Translation) (addr : ChanAddr) : Buffer :=
  if b.state = .empty then Buffer.opened tr addr else b

theorem Buffer.mergeBase_of_empty {b : Buffer} (h : b.state = .empty) (tr : Translation) (addr : ChanAddr) :
    b.mergeBase tr addr = Buffer.opened tr addr := if_pos h

theorem Buffer.mergeBase_of_filling {b : Buffer} (h : b.state = .filling) (tr : Translation) (addr : ChanAddr) :
    b.mergeBase tr addr = b := if_neg (by simp [h])

theorem Buffer.mergeBase_data {b : Buffer} (h : b.state = .empty ∨ b.state = .filling) (tr : Translation)
    (addr : ChanAddr) (k : Fin 16) : (b.mergeBase tr addr).data[k] = if b.state = .filling then b.data[k] else 0 := by
  rcases h with h | h
  · rw [Buffer.mergeBase_of_empty h, h]
    exact Vector.getElem_replicate ..
  · rw [Buffer.mergeBase_of_filling h, if_pos h]

theorem Buffer.mergeBase_mask {b : Buffer} (h : b.state = .empty ∨ b.state = .filling) (tr : Translation)
    (addr : ChanAddr) (k : Fin 16) : (b.mergeBase tr addr).mask[k] = true ↔ b.state = .filling ∧ b.mask[k] = true := by
  rcases h with h | h
  · have clear : (Buffer.opened tr addr).mask[k] = false := Vector.getElem_replicate ..
    rw [Buffer.mergeBase_of_empty h, clear, h]
    simp
  · rw [Buffer.mergeBase_of_filling h]
    simp [h]

/-- R81, R82: everything the merge of a WRITE's bytes does to an EMPTY buffer or a FILLING one of its line. -/
theorem Buffer.mergeBase_merged {b : Buffer} {tr : Translation}
    (h : b.state = .empty ∨ (b.state = .filling ∧ b.line = tr.line)) (addr : ChanAddr) (data : WriteData) (timer : Nat) :
    Merged b ((b.mergeBase tr addr).merge tr data timer) addr data tr := by
  have mergeable := h.imp_right And.left
  have fields : (b.mergeBase tr addr).state = .filling ∧ (b.mergeBase tr addr).line = tr.line ∧
      ((b.mergeBase tr addr).coh = true ↔ b.state = .filling ∧ b.coh = true) ∧
      (b.mergeBase tr addr).lineStart = (if b.state = .filling then b.lineStart else lineStartOf addr) ∧
      (b.mergeBase tr addr).reservation = if b.state = .filling then b.reservation else .none := by
    rcases h with empty | ⟨filling, line⟩
    · simp only [Buffer.mergeBase_of_empty empty, empty]
      exact ⟨rfl, rfl, by simp [Buffer.opened, Buffer.cleared], rfl, rfl⟩
    · simp [Buffer.mergeBase_of_filling filling, filling, line]
  obtain ⟨state, line, coh, lineStart, reservation⟩ := fields
  simp only [Merged, Buffer.merge]
  refine ⟨state, line, fun k => ⟨fun inside => ?_, fun outside => ?_, ?_⟩, ?_, lineStart, reservation⟩
  · exact getElem?_eq_placeBytes inside.1 (WriteData.length_toList data ▸ inside.2)
  · rw [← Buffer.mergeBase_data mergeable tr addr k]
    exact getElem_placeBytes_of_outside (WriteData.length_toList data ▸ outside)
  · rw [← Buffer.mergeBase_mask mergeable tr addr k]
    exact getElem_placeMask_iff ..
  · rw [← coh, or_comm]
    exact Bool.or_eq_true_iff ..

/-- R76, R81, R82: a merge answers the WRITE DONE and leaves the merged buffer, flushed when its mask is full or the
channel is not ACTIVE. -/
theorem State.mergeWrite_eq (s : State) (c : Chan) (addr : ChanAddr) (data : WriteData) (tr : Translation) :
    ∃ timer, ((s.chan c).state = .active → timer = (s.chan c).desc.idleTimeout.toNat) ∧
      s.mergeWrite c addr data tr =
        let m := ((s.chan c).buffer.mergeBase tr addr).merge tr data timer
        let u := (s.setBuffer c m).answer c (.done [])
        if maskFull m.mask = true ∨ (s.chan c).state ≠ .active then u.flushBuffer c else u := by
  refine ⟨if (s.chan c).state = .active then (s.chan c).desc.idleTimeout.toNat
    else ((s.chan c).buffer.mergeBase tr addr).timer, fun active => if_pos active, ?_⟩
  simp only [State.mergeWrite, Buffer.mergeBase]
  rfl

/-- R62, R81, R82, R76: everything a WRITE does that reaches its buffer. -/
theorem State.mergeWrite_reached {s : State} {c : Chan} {tr : Translation}
    (h : (s.chan c).buffer.state = .empty ∨ ((s.chan c).buffer.state = .filling ∧ (s.chan c).buffer.line = tr.line))
    (addr : ChanAddr) (data : WriteData) : WriteReached s (s.mergeWrite c addr data tr) c addr data tr := by
  obtain ⟨timer, loaded, eq⟩ := s.mergeWrite_eq c addr data tr
  have merged := Buffer.mergeBase_merged h addr data timer
  have hm : (((s.chan c).buffer.mergeBase tr addr).merge tr data timer).timer = timer := rfl
  rw [eq]
  dsimp only
  generalize ((s.chan c).buffer.mergeBase tr addr).merge tr data timer = m at merged hm
  have self : ((s.setBuffer c m).answer c (.done [])).chan c =
      { s.chan c with txn := none, answers := (s.chan c).answers ++ [.done []], buffer := m } := by simp
  have other (d : Chan) (hd : d ≠ c) : ((s.setBuffer c m).answer c (.done [])).chan d = s.chan d := by
    rw [State.chan_answer, if_neg (Ne.symm hd), State.chan_setBuffer, if_neg (Ne.symm hd)]
  have whole : (s.setBuffer c m).answer c (.done []) =
      { s with chans := ((s.setBuffer c m).answer c (.done [])).chans } := rfl
  have inv : ((s.setBuffer c m).answer c (.done [])).inv = s.inv := rfl
  have places : (s.modChan c fun ch => { ch with buffer := m }).placesInUse =
      ((s.setBuffer c m).answer c (.done [])).placesInUse := by
    refine State.placesInUse_congr rfl fun d => ?_
    rw [State.chan_answer]
    split
    · next hd => subst hd; rfl
    · rfl
  generalize (s.setBuffer c m).answer c (.done []) = u at self other whole inv places ⊢
  refine ⟨fun _ => ⟨m, merged, fun active => hm.trans (loaded active), ?_⟩, fun stuck => ?_⟩
  · rw [← maskFull_iff]
    split
    · next flushes =>
      refine ⟨fun _ => ?_, fun stays => absurd flushes stays, ?_, fun d hd => ?_, ?_⟩
      · exact (u.flushBuffer_flushed c).congr (by simp [self]) rfl inv.symm rfl (by rw [whole]; rfl) places
      · rw [State.flushBuffer_chan_self, self]
      · rw [State.flushBuffer_chan_ne u hd, other d hd]
      · rw [State.flushBuffer_eq, whole]
    · next stays =>
      exact ⟨fun flushes => absurd flushes stays, fun _ => ⟨by rw [self], inv⟩, by rw [self], other, by rw [whole]⟩
  · rcases h with h | ⟨h, line⟩
    · simp [h] at stuck
    · simp [h, line] at stuck

theorem State.placeWrite_reached (s : State) (c : Chan) (addr : ChanAddr) (data : WriteData) (tr : Translation) :
    WriteReached s (s.placeWrite c addr data tr) c addr data tr := by
  cases h : (s.chan c).buffer.state with
  | empty =>
    simp only [State.placeWrite, h]
    exact State.mergeWrite_reached (.inl h) addr data
  | filling =>
    simp only [State.placeWrite, h]
    split
    · next line => exact State.mergeWrite_reached (.inr ⟨h, line⟩) addr data
    · next line =>
      refine ⟨fun merges => ?_, fun _ => s.flushBuffer_waits c tr⟩
      simp [h, line] at merges
  | pending | writing =>
    simp only [State.placeWrite, h]
    refine ⟨fun merges => ?_, fun _ => State.waitForBuffer_waits (by simp [h]) tr⟩
    simp [h] at merges

/-- R17: everything the permission check of a READ or WRITE leads to. -/
theorem State.checkRights_checked (s : State) (c : Chan) (x : Xlat) : PermissionChecked s (s.checkRights c x) c x := by
  intro y hy
  refine ⟨fun addr size hr => ⟨fun refused => ?_, fun allowed => ?_⟩,
    fun addr data hr => ⟨fun refused => ?_, fun allowed => ?_⟩⟩
  · simp only [State.checkRights, hy, hr, refused]
    exact s.failTransaction_taken ..
  · simp only [State.checkRights, hy, hr, allowed, translationOf_eq]
    exact s.placeRead_reached ..
  · simp only [State.checkRights, hy, hr, refused]
    exact s.failTransaction_taken ..
  · simp only [State.checkRights, hy, hr, allowed, translationOf_eq]
    exact s.placeWrite_reached ..

/-! ## What all outcomes of a permission check leave alike -/

/-- The channel keeps its state or enters FAULTED from ACTIVE; its transaction is answered, or is the same request
waiting for the buffer or a line read; nothing but the channel, the waiters, the log and the causes changes. -/
structure AccessServed (s u : State) (c : Chan) (r : Request) : Prop where
  state : (u.chan c).state = (s.chan c).state ∨ (s.chan c).state = .active ∧ (u.chan c).state = .faulted
  txn : ∀ y, (u.chan c).txn = some y → y.request = r ∧ (y.phase = .waitBuffer ∨ y.phase = .waitRead)
  others : ∀ d, d ≠ c → u.chan d = s.chan d
  rest : u = { s with chans := u.chans, inv := u.inv, log := u.log, ints := u.ints }

section
variable {s u : State} {c : Chan} {y : Transaction}

theorem AccessServed.of_answered {r : Request}
    (state : (u.chan c).state = (s.chan c).state ∨ (s.chan c).state = .active ∧ (u.chan c).state = .faulted)
    (txn : (u.chan c).txn = none) (others : ∀ d, d ≠ c → u.chan d = s.chan d)
    (rest : u = { s with chans := u.chans, inv := u.inv, log := u.log, ints := u.ints }) : AccessServed s u c r :=
  ⟨state, fun _ hy => absurd (txn.symm.trans hy) nofun, others, rest⟩

theorem FaultTaken.served {access : Access} {addr : ChanAddr} {cause : Cause} {answer : Answer}
    (h : FaultTaken s u c access addr cause answer) (r : Request) : AccessServed s u c r := by
  obtain ⟨-, self, others, rest⟩ := h
  split at self
  · next active => exact .of_answered (.inr ⟨active, by rw [self.2]⟩) (by rw [self.2]) others rest
  · exact .of_answered (.inl (by rw [self.2])) (by rw [self.2]) others rest

theorem WaitsForBuffer.served {tr : Translation} (h : WaitsForBuffer s u c tr) (hy : (s.chan c).txn = some y) :
    AccessServed s u c y.request := by
  obtain ⟨-, self, others, rest⟩ := h
  refine ⟨.inl (by rw [self]), fun z hz => ?_, others, by rw [rest]⟩
  rw [self, hy] at hz
  cases hz
  exact ⟨rfl, .inl rfl⟩

/-- An update of the channel alone that keeps its state and answers its transaction or lets it wait. -/
theorem AccessServed.modChan {f : Channel → Channel} {r : Request} (state : (f (s.chan c)).state = (s.chan c).state)
    (txn : ∀ y, (f (s.chan c)).txn = some y → y.request = r ∧ (y.phase = .waitBuffer ∨ y.phase = .waitRead)) :
    AccessServed s (s.modChan c f) c r := by
  refine ⟨.inl ?_, fun y hy => txn y ?_, fun d hd => State.chan_modChan_ne s (Ne.symm hd) f, rfl⟩
  · rw [State.chan_modChan_self, state]
  · rwa [State.chan_modChan_self] at hy

theorem ReadReached.served {size : Size} {tr : Translation} (h : ReadReached s u c size tr)
    (hy : (s.chan c).txn = some y) : AccessServed s u c y.request := by
  obtain ⟨waits, answered, requested⟩ := h
  by_cases own : (s.chan c).buffer.state ≠ .empty ∧ (s.chan c).buffer.line = tr.line
  · exact (waits own).served hy
  by_cases line : (s.chan c).state = .active ∧ (s.chan c).desc.readAhead = true ∧
      ∃ d, (s.chan c).readAhead = some { line := tr.line, data := d }
  · obtain ⟨active, enabled, d, hd⟩ := line
    rw [answered d own active enabled hd]
    exact .modChan rfl nofun
  · rw [requested own line]
    refine .modChan rfl fun z hz => ?_
    rw [hy] at hz
    cases hz
    exact ⟨rfl, .inr rfl⟩

theorem WriteReached.served {addr : ChanAddr} {data : WriteData} {tr : Translation} (h : WriteReached s u c addr data tr)
    (hy : (s.chan c).txn = some y) : AccessServed s u c y.request := by
  obtain ⟨merges, waits⟩ := h
  by_cases merge : (s.chan c).buffer.state = .empty ∨
      ((s.chan c).buffer.state = .filling ∧ (s.chan c).buffer.line = tr.line)
  · obtain ⟨m, -, -, -, -, self, others, rest⟩ := merges merge
    exact .of_answered (.inl (by rw [self])) (by rw [self]) others (by rw [rest])
  · refine (waits ?_).served hy
    cases hb : (s.chan c).buffer.state <;> simp_all

theorem PermissionChecked.served {x : Xlat} (h : PermissionChecked s u c x) (hy : (s.chan c).txn = some y)
    (access : y.request ≠ .sync) : AccessServed s u c y.request := by
  obtain ⟨reads, writes⟩ := h y hy
  cases hr : y.request with
  | read addr size =>
    cases hx : x.rd with
    | false => exact ((reads addr size hr).1 hx).served _
    | true => exact hr ▸ ((reads addr size hr).2 hx).served hy
  | write addr data =>
    cases hx : x.wr with
    | false => exact ((writes addr data hr).1 hx).served _
    | true => exact hr ▸ ((writes addr data hr).2 hx).served hy
  | sync => exact absurd hr access

/-- R69: outside DRAINING and ABORTING the test of the conditions changes nothing after a READ or WRITE was served. -/
theorem AccessServed.settle_eq {r : Request} (h : AccessServed s u c r) (access : r ≠ .sync)
    (running : (s.chan c).state = .active ∨ (s.chan c).state = .faulted) : u.settle c = u := by
  have state : (u.chan c).state = .active ∨ (u.chan c).state = .faulted := by
    rcases h.state with same | ⟨-, faulted⟩
    · rwa [same]
    · exact .inr faulted
  refine State.settle_of_access ?_ ?_ fun t ht => (h.txn t ht).1 ▸ access
  · rcases state with h | h <;> simp [h]
  · rcases state with h | h <;> simp [h]

end

end Sys2Proof.Machine
end

section
/-!
SUPPORT. The two ways an access comes to its permission check: a lookup that hits (R25, R26) and a walk that installs
(R45 to R49); and O18 and O23, which say what the check leads to.
-/

namespace Sys2Proof.Machine

/-! ## A lookup that hits (R23, R25, R26) -/

/-- R29: with one translation for each pair, the lookup finds the entry that carries the pair. -/
theorem Tc.find_of_entry {s : State} (one : OneTranslationLaw s) {i : Fin 16} {e : TcEntry}
    (he : s.tc.entries[i] = some e) : s.tc.find e.chan e.page = some (i, e) := by
  cases h : s.tc.find e.chan e.page with
  | none => exact absurd ⟨rfl, rfl⟩ (Tc.find_none h i e he)
  | some found =>
    obtain ⟨j, x⟩ := found
    obtain ⟨hx, hc, hp⟩ := Tc.find_some h
    obtain rfl := one j i x e hx he hc hp
    rw [hx] at he
    cases he
    rfl

/-- R23, R26: what a hit changes of the cache: the entry is the most recent, and its channel the last served. -/
def State.afterHit (s : State) (c : Chan) (i : Fin 16) : State :=
  { s with tc := { s.tc with lastServed := .channel c, recency := i :: s.tc.recency.erase i } }

/-- R23, R25, R26: the service of a lookup that hits takes the permission check and the test of the conditions. -/
theorem exec_lookupService_of_hit {c : Chan} {x : Transaction} {access : Access} {addr : ChanAddr} {size : Size}
    {i : Fin 16} {e : TcEntry} {s : State} (released : s.resetHeld = false) (next : NextServed s (.channel c))
    (one : OneTranslationLaw s) (hx : (s.chan c).txn = some x) (hr : x.request.access? = some (access, addr, size))
    (he : s.tc.entries[i] = some e) (hc : e.chan = c) (hp : e.page = pageOf addr) :
    exec .lookupService s = .next (((s.afterHit c i).checkRights c e.xlat).settle c) := by
  have found : s.tc.find c (pageOf addr) = some (i, e) := by
    rw [← hc, ← hp]
    exact Tc.find_of_entry one he
  have served : (s.served (.channel c)).tc.find c (pageOf addr) = some (i, e) := found
  have access : ((s.served (.channel c)).chan c).txn.bind (fun t => t.request.access?) = some (access, addr, size) := by
    rw [State.chan_of_chans (State.served_chans ..), hx]
    exact hr
  rw [exec_lookupService, State.unlessReset_of_not_held released, State.lookupService, (s.portPick_iff _).mpr next]
  simp only [State.lookup, access, served]
  rfl

theorem Request.ne_sync_of_access {r : Request} {a : Access × ChanAddr × Size} (h : r.access? = some a) : r ≠ .sync := by
  rintro rfl
  cases h

/-- R69: the permission check of a hit, and the test of the conditions, which only matters in DRAINING and ABORTING. -/
theorem exec_lookupService_checked {c : Chan} {x : Transaction} {access : Access} {addr : ChanAddr} {size : Size}
    {i : Fin 16} {e : TcEntry} {s : State} (released : s.resetHeld = false) (next : NextServed s (.channel c))
    (one : OneTranslationLaw s) (hx : (s.chan c).txn = some x) (hr : x.request.access? = some (access, addr, size))
    (he : s.tc.entries[i] = some e) (hc : e.chan = c) (hp : e.page = pageOf addr) :
    ∃ u t, exec .lookupService s = .next t ∧ PermissionChecked (s.afterHit c i) u c e.xlat ∧ ConditionsTested u t c ∧
      ((s.chan c).state = .active ∨ (s.chan c).state = .faulted → t = u) := by
  have checked := (s.afterHit c i).checkRights_checked c e.xlat
  exact ⟨_, _, exec_lookupService_of_hit released next one hx hr he hc hp, checked, State.settle_tested .., fun running =>
    (checked.served hx (Request.ne_sync_of_access hr)).settle_eq (Request.ne_sync_of_access hr) running⟩

theorem State.modChan_congr {s : State} {c : Chan} {f g : Channel → Channel} (h : f (s.chan c) = g (s.chan c)) :
    s.modChan c f = s.modChan c g := by
  rw [State.modChan, h, ← State.modChan]

theorem Request.access?_eq_read {r : Request} {addr : ChanAddr} {size : Size}
    (h : r.access? = some (.read, addr, size)) : r = .read addr size := by
  cases r <;> simp_all [Request.access?]

theorem Request.access?_eq_write {r : Request} {addr : ChanAddr} {size : Size}
    (h : r.access? = some (.write, addr, size)) : ∃ data, r = .write addr data := by
  cases r <;> simp_all [Request.access?]

/-- Settles O18: a hit takes the permission check, whose outcome the right and the read path decide. -/
theorem lookupHitRefusedOrRead : Obligations.LookupHitRefusedOrRead := by
  refine ⟨fun c x access addr size i e s released next one hx hr he hc hp refused => ?_,
    fun c x addr size i e s released next one active hx hr he hc hp allowed apart => ?_,
    fun c x addr size i e s released next one hx hr he hc hp allowed => ?_⟩
  · obtain ⟨u, t, ht, checked, tested, same⟩ := exec_lookupService_checked released next one hx hr he hc hp
    refine ⟨u, t, ht, ?_, tested, same⟩
    obtain ⟨reads, writes⟩ := checked x hx
    cases access with
    | read => exact (reads addr size (Request.access?_eq_read hr)).1 refused
    | write =>
      obtain ⟨data, hd⟩ := Request.access?_eq_write hr
      exact (writes addr data hd).1 refused
  · obtain ⟨u, t, ht, checked, -, same⟩ :=
      exec_lookupService_checked (access := .read) released next one hx (by rw [hr]; rfl) he hc hp
    obtain ⟨-, answered, requested⟩ := ((checked x hx).1 addr size hr).2 allowed
    have notOwn : ¬ ((s.chan c).buffer.state ≠ .empty ∧ (s.chan c).buffer.line = (boundTo e.xlat addr).line) :=
      fun own => apart.elim own.1 fun line => line own.2
    rw [same (.inl active)] at ht
    refine ⟨fun d line enabled => ?_, fun none => ?_⟩
    · rw [ht, answered d notOwn active enabled line]
      rfl
    · have notHeld : ¬ ((s.chan c).state = .active ∧ (s.chan c).desc.readAhead = true ∧
          ∃ d, (s.chan c).readAhead = some { line := (boundTo e.xlat addr).line, data := d }) := by
        rintro ⟨-, enabled, d, line⟩
        rcases none with never | off
        · exact never d line
        · rw [off] at enabled; cases enabled
      rw [ht, requested notOwn notHeld]
      refine congrArg _ (State.modChan_congr ?_)
      rw [show ((s.afterHit c i).chan c).txn = some x from hx]
      rfl
  · obtain ⟨u, t, ht, checked, tested, same⟩ :=
      exec_lookupService_checked (access := .read) released next one hx (by rw [hr]; rfl) he hc hp
    exact ⟨u, t, ht, ((checked x hx).1 addr size hr).2 allowed, tested, same⟩

/-! ## A walk that installs (R45 to R49) -/

theorem mapEntry_of_valid {word : Word} (h : word.getLsbD 0 = true) :
    mapEntry word = some
      { frame := BitVec.ofNat 21 (word.toNat / 2048), rd := word.getLsbD 1, wr := word.getLsbD 2
        coh := word.getLsbD 3 } := by
  rw [mapEntry, if_pos h, BitVec.extractLsb', Nat.shiftRight_eq_div_pow]

theorem State.endResetting_of_running {s : State} (h : s.bridge = .running) : s.endResetting = s := by
  unfold State.endResetting
  split
  · rw [← h]
  · rfl

theorem State.freeSlot_eq (s : State) (i : Fin 2) : s.freeSlot i = { s with walk := (s.freeSlot i).walk } := by
  simp only [State.freeSlot]
  split <;> rfl

/-- R49: the freeing of a slot looks at nothing but the walk unit and the channels' map origins. -/
theorem SlotFreed.congr {s s' t t' : State} {i : Fin 2} (h : SlotFreed s t i) (walk : s'.walk = s.walk)
    (chans : s'.chans = s.chans) (walk' : t'.walk = t.walk) : SlotFreed s' t' i := by
  simp only [SlotFreed, State.chan, walk, chans, walk'] at h ⊢
  exact h

/-- R46, R29, R49: the state a valid word is installed in, with its slot freed. -/
def State.installed (s : State) (i : Fin 2) (w : Walk) (x : Xlat) : State :=
  ({ s with tc := s.tc.install { chan := w.chan, page := w.page, xlat := x } (s.chan w.chan).desc.quota.toNat } :
    State).freeSlot i

/-- R45: a valid word to a slot that is neither discarded nor stale. -/
theorem State.walkReturn_of_valid {s : State} {i : Fin 2} {w : Walk} {word : Word} {x : Xlat}
    (hw : s.walk.slots[i] = some w) (issued : w.issued = true) (kept : w.discard = false) (fresh : w.stale = false)
    (valid : mapEntry word = some x) :
    s.walkReturn i (.word word) = ((s.installed i w x).checkRights w.chan x).settle w.chan := by
  simp [State.walkReturn, hw, issued, kept, fresh, valid, State.installed]

/-- R146: a completion of a walk is handed to its slot; in RUNNING the bus master's report changes nothing. -/
theorem exec_walkDataReturn_of_record {s : State} {id : Nat} {i : Fin 2} (released : s.resetHeld = false)
    (running : s.bridge = .running) (hrec : s.bus.recordOf id = some { id, requester := .walk i }) (result : WalkResult) :
    exec (.walkDataReturn id result) s = .next ((s.freeRecord id).walkReturn i result) := by
  rw [exec_walkDataReturn, State.unlessReset_of_not_held released]
  simp only [State.complete, hrec]
  rw [State.endResetting_of_running (by simpa using running)]

theorem State.installed_eq (s : State) (i : Fin 2) (w : Walk) (x : Xlat) :
    s.installed i w x =
      { s with
        tc := s.tc.install { chan := w.chan, page := w.page, xlat := x } (s.chan w.chan).desc.quota.toNat
        walk := (s.installed i w x).walk } := by
  rw [State.installed, State.freeSlot_eq]

theorem State.installed_freed (s : State) (i : Fin 2) (w : Walk) (x : Xlat) : SlotFreed s (s.installed i w x) i := by
  unfold State.installed
  exact (State.freeSlot_freed _ i).congr (by rfl) (by rfl) rfl

theorem ConditionsTested.walk_eq {s t : State} {c : Chan} (h : ConditionsTested s t c) : t.walk = s.walk := by
  obtain ⟨-, -, -, -, -, rest⟩ := h
  rw [rest]

/-- R63: the test of the conditions leaves a transaction as it is or ends it. -/
theorem ConditionsTested.txn_of_some {s t : State} {c : Chan} (h : ConditionsTested s t c) {y : Transaction}
    (hy : (t.chan c).txn = some y) : (s.chan c).txn = some y := by
  obtain ⟨⟨ended, kept⟩, -⟩ := h
  by_cases hs : SyncEnds s c
  · obtain ⟨⟨x, hx, -⟩, -⟩ := id hs
    rw [(ended x hx hs).1] at hy
    cases hy
  · rwa [← (kept hs).1]

/-- Settles O23: the install, the freeing of the slot, the permission check and the test of the conditions, in order. -/
theorem walkInstalls : Obligations.WalkInstalls := by
  intro id i w word x a s released running hrec hw issued kept fresh valid hx ha xlat
  have access := Request.ne_sync_of_access ha
  have freed : SlotFreed s ((s.freeRecord id).installed i w xlat) i :=
    ((s.freeRecord id).installed_freed i w xlat).congr rfl rfl rfl
  have installed := (s.freeRecord id).installed_eq i w xlat
  have hexec : exec (.walkDataReturn id (.word word)) s =
      .next ((((s.freeRecord id).installed i w xlat).checkRights w.chan xlat).settle w.chan) := by
    rw [exec_walkDataReturn_of_record released running hrec,
      State.walkReturn_of_valid (s := s.freeRecord id) hw issued kept fresh (mapEntry_of_valid valid)]
  generalize (s.freeRecord id).installed i w xlat = v at freed installed hexec
  have same : v.chans = s.chans := by rw [installed]; rfl
  have txn : (v.chan w.chan).txn = some x := by rw [State.chan_of_chans same, hx]
  have checked := v.checkRights_checked w.chan xlat
  have tested := (v.checkRights w.chan xlat).settle_tested w.chan
  have served := checked.served txn access
  have settled := served.settle_eq access
  generalize v.checkRights w.chan xlat = u at checked tested served settled hexec
  generalize u.settle w.chan = t at tested settled hexec
  have walk : t.walk = v.walk := by rw [tested.walk_eq, served.rest]
  have before : { s.freeRecord id with
      tc := s.tc.install { chan := w.chan, page := w.page, xlat := xlat } (s.chan w.chan).desc.quota.toNat
      walk := t.walk } = v := by rw [walk, installed]; rfl
  refine ⟨u, t, hexec, freed.congr rfl rfl walk, before ▸ checked, tested, ?_, fun y hy => ?_, fun d hd => ?_, ?_⟩
  · rw [← State.chan_of_chans same]
    exact settled
  · rcases (served.txn y (tested.txn_of_some hy)).2 with h | h <;> rw [h] <;> decide
  · obtain ⟨-, -, -, -, others, -⟩ := tested
    rw [others d hd, served.others d hd, State.chan_of_chans same]
  · obtain ⟨-, -, -, -, -, rest⟩ := tested
    rw [rest, served.rest, installed]

end Sys2Proof.Machine
end

section
/-!
SUPPORT. What a step can do to the translation cache, as one inductive (R19 to R39), and the proof that every step is a
chain of these moves: a law of the cache is kept by every step as soon as each move keeps it. O55 is two such laws.
-/

namespace Sys2Proof.Machine

/-! ## The two laws, of a cache alone -/

/-- R29: no two valid entries carry the same channel and page. -/
def Tc.OnePerPair (t : Tc) : Prop :=
  ∀ (i j : Fin 16) (a b : TcEntry), t.entries[i] = some a → t.entries[j] = some b →
    a.chan = b.chan → a.page = b.page → i = j

/-- R20: each entry number once, the valid entries first, then the free ones in ascending order. -/
def Tc.RecencyForm (t : Tc) : Prop :=
  t.recency.Nodup ∧
    t.recency = t.recency.filter (fun i => t.entries[i].isSome)
      ++ (List.finRange 16).filter (fun i => t.entries[i].isNone) ∧
    ∀ i : Fin 16, i ∈ t.recency

theorem oneTranslationLaw_iff (s : State) : OneTranslationLaw s ↔ s.tc.OnePerPair := Iff.rfl

theorem recencyLaw_iff (s : State) : RecencyLaw s ↔ s.tc.RecencyForm := Iff.rfl

/-! ## The moves of a cache -/

/-- Everything that can happen to the cache: a service or a probe recorded, a hit, a drop of entries (R32 to R38), an
install (R29), and all entries dropped (R36, R40). -/
inductive TcMove : Tc → Tc → Prop
  | record (t lastServed probe) : TcMove t { t with lastServed := lastServed, probe := probe }
  | touch (t i) : t.entries[i].isSome = true → TcMove t (t.touch i)
  | drop (t p) : TcMove t (t.dropWhere p)
  | install (t e quota) : TcMove t (t.install e quota)
  | clear (t lastServed probe) :
      TcMove t { entries := Vector.replicate 16 none, recency := recencyAscending, lastServed, probe }

/-- The cache goes from its value in `s` to its value in `t` by moves. -/
structure CacheMoves (s t : State) : Prop where
  tc : Relation.ReflTransGen TcMove s.tc t.tc

theorem Tc.install_eq (t : Tc) (e : TcEntry) (quota : Nat) :
    t.install e quota =
      { t with
        entries := t.entries.set (t.place e quota) (some e)
        recency := t.place e quota :: t.recency.erase (t.place e quota) } := rfl

theorem Tc.install_entries (t : Tc) (e : TcEntry) (quota : Nat) (j : Fin 16) :
    (t.install e quota).entries[j] = if t.place e quota = j then some e else t.entries[j] :=
  vector_getElem_set_fin t.entries (t.place e quota) j (some e) (t.place e quota).isLt

theorem Tc.dropWhere_entries (t : Tc) (p : TcEntry → Bool) (i : Fin 16) :
    (t.dropWhere p).entries[i] = t.entries[i].filter fun x => !p x := by
  simp [Tc.dropWhere]

theorem Tc.dropWhere_some {t : Tc} {p : TcEntry → Bool} {i : Fin 16} {e : TcEntry}
    (h : (t.dropWhere p).entries[i] = some e) : t.entries[i] = some e ∧ p e = false := by
  rw [Tc.dropWhere_entries, Option.filter_eq_some_iff] at h
  simpa using h

/-- R29: an install goes to the entry of its pair, if there is one. -/
theorem Tc.place_of_pair {t : Tc} (one : t.OnePerPair) {e x : TcEntry} {j : Fin 16} (hj : t.entries[j] = some x)
    (hc : x.chan = e.chan) (hp : x.page = e.page) (quota : Nat) : t.place e quota = j := by
  cases h : t.find e.chan e.page with
  | none => exact absurd ⟨hc, hp⟩ (Tc.find_none h j x hj)
  | some found =>
    obtain ⟨i, y⟩ := found
    obtain ⟨hy, yc, yp⟩ := Tc.find_some h
    simp only [Tc.place, h]
    exact one i j y x hy hj (yc.trans hc.symm) (yp.trans hp.symm)

theorem TcMove.keeps_onePerPair {a b : Tc} (m : TcMove a b) (one : a.OnePerPair) : b.OnePerPair := by
  cases m with
  | record | touch => exact one
  | drop p =>
    intro i j x y hx hy
    exact one i j x y (Tc.dropWhere_some hx).1 (Tc.dropWhere_some hy).1
  | install e quota =>
    intro i j x y hx hy hc hp
    rw [Tc.install_entries] at hx hy
    split at hx <;> split at hy
    · next hi hj => exact hi.symm.trans hj
    · next hi hj =>
      cases hx
      exact absurd (Tc.place_of_pair one hy hc.symm hp.symm quota) hj
    · next hi hj =>
      cases hy
      exact absurd (Tc.place_of_pair one hx hc hp quota) hi
    · exact one i j x y hx hy hc hp
  | clear =>
    intro i j x y hx
    simp at hx

/-- R20: in a recency list of this form an entry that moves to the front, and is then valid, leaves the form. -/
theorem recency_move_front {valid valid' : Fin 16 → Bool} {l : List (Fin 16)} {i : Fin 16} (nodup : l.Nodup)
    (form : l = l.filter valid ++ (List.finRange 16).filter fun j => !valid j) (front : valid' i = true)
    (others : ∀ j, j ≠ i → valid' j = valid j) :
    i :: l.erase i = (i :: l.erase i).filter valid' ++ (List.finRange 16).filter fun j => !valid' j := by
  have rest : (l.erase i).filter valid' = (l.filter valid).filter (· != i) := by
    rw [nodup.erase_eq_filter, List.filter_filter, List.filter_filter]
    refine List.filter_congr fun j _ => ?_
    by_cases hj : j = i
    · simp [hj]
    · simp [others j hj, Bool.and_comm]
  have free : (List.finRange 16).filter (fun j => !valid' j) =
      ((List.finRange 16).filter fun j => !valid j).filter (· != i) := by
    rw [List.filter_filter]
    refine List.filter_congr fun j _ => ?_
    by_cases hj : j = i
    · simp [hj, front]
    · simp [hj, others j hj]
  have whole : l.erase i = (l.filter valid).filter (· != i) ++
      ((List.finRange 16).filter fun j => !valid j).filter (· != i) := by
    rw [nodup.erase_eq_filter, ← List.filter_append, ← form]
  rw [List.filter_cons_of_pos front, rest, free, List.cons_append, ← whole]

theorem Tc.RecencyForm.move_front {t t' : Tc} (h : t.RecencyForm) {i : Fin 16}
    (recency : t'.recency = i :: t.recency.erase i) (valid : t'.entries[i].isSome = true)
    (others : ∀ j : Fin 16, j ≠ i → t'.entries[j] = t.entries[j]) : t'.RecencyForm := by
  obtain ⟨nodup, form, all⟩ := h
  simp only [← Option.not_isSome] at form
  refine ⟨?_, ?_, fun j => ?_⟩
  · rw [recency]
    exact List.nodup_cons.mpr ⟨nodup.not_mem_erase, nodup.erase i⟩
  · rw [recency]
    simp only [← Option.not_isSome]
    exact recency_move_front nodup form valid fun j hj => by rw [others j hj]
  · rw [recency, List.mem_cons, nodup.mem_erase_iff]
    by_cases hj : j = i
    · exact .inl hj
    · exact .inr ⟨hj, all j⟩

/-- R19, R20: the form that a drop builds: what is left of the valid entries, then the free ones. -/
theorem Tc.RecencyForm.dropWhere {t : Tc} (h : t.RecencyForm) (p : TcEntry → Bool) : (t.dropWhere p).RecencyForm := by
  obtain ⟨nodup, -, all⟩ := h
  have eq : (t.dropWhere p).recency = t.recency.filter (fun i => (t.dropWhere p).entries[i].isSome) ++
      (List.finRange 16).filter fun i => (t.dropWhere p).entries[i].isNone := rfl
  generalize (t.dropWhere p) = t' at eq ⊢
  refine ⟨?_, ?_, fun j => ?_⟩
  · rw [eq]
    refine (nodup.filter _).append ((List.nodup_finRange 16).filter _) fun i hv hf => ?_
    simp_all
  · conv_lhs => rw [eq]
    congr 1
    rw [eq, List.filter_append, List.filter_filter, List.filter_filter]
    have none : (List.finRange 16).filter (fun i => t'.entries[i].isSome && t'.entries[i].isNone) = [] :=
      List.filter_eq_nil_iff.mpr fun i _ => by cases t'.entries[i] <;> simp
    rw [none]
    simp
  · rw [eq]
    cases hj : t'.entries[j].isSome <;> simp_all

theorem TcMove.keeps_recencyForm {a b : Tc} (m : TcMove a b) (h : a.RecencyForm) : b.RecencyForm := by
  cases m with
  | record => exact h
  | touch i valid => exact h.move_front rfl valid fun _ _ => rfl
  | drop p => exact h.dropWhere p
  | install e quota =>
    refine h.move_front (i := a.place e quota) rfl ?_ fun j hj => ?_
    · rw [Tc.install_entries, if_pos rfl]
      rfl
    · rw [Tc.install_entries, if_neg (Ne.symm hj)]
  | clear =>
    refine ⟨List.nodup_finRange 16, ?_, List.mem_finRange⟩
    simp [recencyAscending]

/-! ## The moves of each operation -/

theorem CacheMoves.of_eq {s t : State} (h : t.tc = s.tc) : CacheMoves s t := ⟨h ▸ .refl⟩

theorem CacheMoves.refl (s : State) : CacheMoves s s := .of_eq rfl

theorem CacheMoves.single {s t : State} (h : TcMove s.tc t.tc) : CacheMoves s t := ⟨.single h⟩

/-- The moves of an operation after those of what it is applied to. -/
theorem CacheMoves.after {s t u : State} (h₂ : CacheMoves t u) (h₁ : CacheMoves s t) : CacheMoves s u :=
  ⟨h₁.tc.trans h₂.tc⟩

theorem CacheMoves.unlessReset {s : State} {f : State → State} (h : CacheMoves s (f s)) :
    CacheMoves s (s.unlessReset f) := State.unlessReset_keeps (.refl s) fun _ => h

theorem CacheMoves.foldl {α : Type} {f : State → α → State} (h : ∀ s a, CacheMoves s (f s a)) (l : List α) (s : State) :
    CacheMoves s (l.foldl f s) := by
  induction l generalizing s with
  | nil => exact .refl s
  | cons a l ih => exact (ih (f s a)).after (h s a)

section
variable (s : State)

theorem State.reachDisabled_cacheMoves (c : Chan) : CacheMoves s (s.reachDisabled c) :=
  .single (.drop s.tc fun e => e.chan == c)

theorem State.settle_cacheMoves (c : Chan) : CacheMoves s (s.settle c) := by
  have answered : CacheMoves s (s.trySync c) := .of_eq (by simp)
  by_cases h : DrainEnds s c ∨ AbortEnds s c
  · rw [(s.settle_eq c).1 h]
    exact (State.reachDisabled_cacheMoves ..).after answered
  · rw [(s.settle_eq c).2 h]
    exact answered

theorem State.walkReturn_cacheMoves (i : Fin 2) (result : WalkResult) : CacheMoves s (s.walkReturn i result) := by
  simp only [State.walkReturn]
  repeat' split
  · exact .refl s
  · exact .refl s
  · exact (State.settle_cacheMoves ..).after (.of_eq (by simp))
  · exact .of_eq rfl
  · exact (State.settle_cacheMoves ..).after (.of_eq (by simp))
  · exact (State.settle_cacheMoves ..).after (.of_eq (by simp))
  · refine (State.settle_cacheMoves ..).after (.single ?_)
    simp only [State.checkRights_frame, State.freeSlot_frame]
    exact .install ..

theorem State.lineReadReturn_cacheMoves (c : Chan) (result : LineResult) : CacheMoves s (s.lineReadReturn c result) := by
  simp only [State.lineReadReturn]
  repeat' split
  · exact .refl s
  · exact .refl s
  all_goals exact (State.settle_cacheMoves ..).after (.of_eq (by simp))

theorem State.lineWriteAck_cacheMoves (c : Chan) (ack : Ack) : CacheMoves s (s.lineWriteAck c ack) := by
  unfold State.lineWriteAck
  split
  · refine (State.settle_cacheMoves ..).after (.of_eq ?_)
    cases ack <;> simp
  · exact .refl s

theorem State.killAck_cacheMoves (ack : Ack) : CacheMoves s (s.killAck ack) := by
  unfold State.killAck
  repeat' split
  · exact .refl s
  · exact (CacheMoves.foldl State.settle_cacheMoves _ _).after (.of_eq (by simp))
  · exact (CacheMoves.foldl State.settle_cacheMoves _ _).after (.of_eq (by simp))
  · exact .refl s

theorem State.observe_cacheMoves (w : BusWrite) : CacheMoves s (s.observe w) := .single (.drop ..)

theorem State.issue_cacheMoves (r : Requester) : CacheMoves s (s.issue r) := by
  cases r with
  | walk i => exact .of_eq rfl
  | read c => exact .of_eq rfl
  | write c => exact (State.observe_cacheMoves ..).after (.of_eq rfl)
  | kill =>
    simp only [State.issue]
    split <;> exact .of_eq rfl

theorem State.busGrant_cacheMoves : CacheMoves s s.busGrant := by
  unfold State.busGrant
  repeat' split
  · exact s.issue_cacheMoves _
  · exact .refl s
  · exact .refl s

theorem State.complete_cacheMoves (k : Completion) : CacheMoves s (s.complete k) := by
  have reported {t : State} (h : CacheMoves s t) : CacheMoves s t.endResetting := .after (.of_eq (by simp)) h
  have freed (id : Nat) : CacheMoves s (s.freeRecord id) := .of_eq rfl
  unfold State.complete
  split <;> split
  · exact reported ((State.walkReturn_cacheMoves ..).after (freed _))
  · exact .refl s
  · exact reported ((State.lineReadReturn_cacheMoves ..).after (freed _))
  · exact .refl s
  · exact reported ((State.lineWriteAck_cacheMoves ..).after (freed _))
  · exact .refl s
  · exact reported ((State.killAck_cacheMoves ..).after (freed _))
  · exact .refl s

theorem State.portTake_cacheMoves (c : Chan) : CacheMoves s (s.portTake c) := by
  unfold State.portTake State.takeRequest State.acceptSync
  repeat' split
  · exact .of_eq (by simp)
  · exact (State.settle_cacheMoves ..).after (.of_eq (by simp))
  · exact .of_eq rfl
  · exact .refl s

theorem State.present_cacheMoves (c : Chan) (r : Request) : CacheMoves s (s.present c r) := by
  unfold State.present
  exact .after (.unlessReset (State.portTake_cacheMoves _ c)) (.of_eq rfl)

theorem State.idle_cacheMoves : CacheMoves s s.idle := by
  refine .unlessReset ?_
  split
  · exact s.portTake_cacheMoves _
  · exact .of_eq (by simp)

theorem State.disableChannel_cacheMoves (c : Chan) : CacheMoves s (s.disableChannel c).1 := by
  unfold State.disableChannel
  split
  · dsimp only
    exact (State.settle_cacheMoves ..).after (.of_eq (by simp))
  · exact .refl s

theorem State.abortChannel_cacheMoves (c : Chan) : CacheMoves s (s.abortChannel c).1 := by
  unfold State.abortChannel
  split
  · exact .refl s
  · exact .refl s
  all_goals
    dsimp only
    exact (State.settle_cacheMoves ..).after (.of_eq (by simp))

theorem State.dispatchCommand_cacheMoves (n : CommandName) (channel : BitVec 4) (page : BitVec 14) :
    CacheMoves s (s.dispatchCommand n channel page) := by
  cases n with
  | chDisable => exact (CacheMoves.of_eq (State.completeCommand_tc ..)).after (s.disableChannel_cacheMoves _)
  | chAbort => exact (CacheMoves.of_eq (State.completeCommand_tc ..)).after (s.abortChannel_cacheMoves _)
  | chEnable | chResume | tagsClear => exact .of_eq (by simp [State.dispatchCommand])
  | xlatFlushPage | xlatFlushChannel | xlatFlushAll | xlatProbe => exact .of_eq rfl

theorem State.command_cacheMoves (n : CommandName) (channel : BitVec 4) (page : BitVec 14) :
    CacheMoves s (s.command n channel page) := by
  unfold State.command
  repeat' split
  · exact .of_eq rfl
  · exact .of_eq rfl
  · exact s.dispatchCommand_cacheMoves ..
  · exact .of_eq rfl

theorem State.served_cacheMoves (u : PortUser) : CacheMoves s (s.served u) := .single (.record s.tc u s.tc.probe)

theorem State.lookup_cacheMoves (c : Chan) : CacheMoves s (s.lookup c) := by
  unfold State.lookup
  repeat' split
  · exact .refl s
  · next found =>
    have valid := (Tc.find_some found).1
    refine (State.settle_cacheMoves ..).after (.single ?_)
    simp only [State.checkRights_frame]
    exact .touch s.tc _ (by rw [valid]; rfl)
  · exact .of_eq (by simp)

theorem State.lookupService_cacheMoves : CacheMoves s s.lookupService := by
  unfold State.lookupService
  split
  · exact (State.lookup_cacheMoves ..).after (s.served_cacheMoves _)
  · exact .refl s

theorem State.serveCommand_cacheMoves : CacheMoves s s.serveCommand := by
  simp only [State.serveCommand]
  repeat' split
  · exact .refl s
  · exact .single (.record s.tc s.tc.lastServed _)
  · exact .single (.drop s.tc _)

theorem State.commandService_cacheMoves : CacheMoves s s.commandService := by
  unfold State.commandService
  split
  · exact (State.serveCommand_cacheMoves _).after (s.served_cacheMoves _)
  · exact .refl s

theorem State.softReset_cacheMoves : CacheMoves s s.softReset := by
  unfold State.softReset
  split
  · exact .refl s
  · refine .single ?_
    simp only [State.endResetting_frame, Tc.dropAll]
    exact .clear ..

theorem State.writeReg_cacheMoves (r : Reg) (value : Word) : CacheMoves s (s.writeReg r value) := by
  cases r with
  | ident | commandStatus | probeResult | shadowStatus | invalidateStatus | busStatus | faultHead0 | faultHead1
  | faultLogStatus | channelStatus => exact .refl s
  | timebase | globalStatus | intCause | intMask | channelOffSet | faultPop => exact .of_eq rfl
  | resetControl =>
    simp only [State.writeReg]
    split
    · exact s.softReset_cacheMoves
    · exact .refl s
  | command =>
    simp only [State.writeReg, State.writeCommand]
    repeat' split
    · exact s.command_cacheMoves ..
    · exact .of_eq rfl
    · exact .of_eq rfl
  | shadowControl | desc => exact .of_eq (by simp [State.writeReg])

theorem State.windowWrite_cacheMoves (addr : Word) (lanes : BitVec 4) (value : Word) :
    CacheMoves s (s.windowWrite addr lanes value) := by
  unfold State.windowWrite
  repeat' split
  · exact s.writeReg_cacheMoves ..
  · exact .refl s
  · exact .of_eq rfl
  · exact .refl s

end

/-- Every command takes the cache by moves. -/
theorem exec_cacheMoves (i : Instr) (s t : State) (h : exec i s = .next t) : CacheMoves s t := by
  have effect {f : State → State} (hf : ∀ s, CacheMoves s (f s)) : CacheMoves s (s.unlessReset f) :=
    .unlessReset (hf s)
  have same {f : State → State} (hf : ∀ s, (f s).tc = s.tc) : CacheMoves s (s.unlessReset f) :=
    effect fun s => .of_eq (hf s)
  cases i <;> cases h
  case resetAssertion => exact effect fun s => .single (.clear ..)
  case resetRelease => split <;> exact .of_eq rfl
  case read | write | sync => exact s.present_cacheMoves ..
  case chEnable | chDisable | chResume | chAbort | xlatFlushPage | xlatFlushChannel | xlatFlushAll | xlatProbe
      | tagsClear => exact effect fun s => s.command_cacheMoves ..
  case lookupService => exact effect State.lookupService_cacheMoves
  case commandService => exact effect State.commandService_cacheMoves
  case busGrant => exact effect State.busGrant_cacheMoves
  case walkDataReturn | lineReadDataReturn | lineWriteAcknowledge | killAcknowledge | ignoredCompletion =>
    exact effect fun s => s.complete_cacheMoves _
  case observedWrite => exact effect fun s => s.observe_cacheMoves _
  case softReset => exact effect State.softReset_cacheMoves
  case registerWrite => exact effect fun s => s.windowWrite_cacheMoves ..
  case fill | sweepStep | tick | idleTimerExpiry | modeWrite | descriptorWrite => exact same fun s => by simp
  case faultPop | divisorWrite | wayMaskWrite | globalStatusClear | intCauseClear | channelOffClear | intMaskWrite =>
    exact same fun _ => rfl

/-- A law of the cache that every move keeps is kept by every step. -/
theorem keptByStep_of_tcMove {P : Tc → Prop} (keep : ∀ {a b}, TcMove a b → P a → P b) : KeptByStep fun s => P s.tc := by
  have moves {s t : State} (m : CacheMoves s t) (h : P s.tc) : P t.tc := by
    obtain ⟨m⟩ := m
    generalize t.tc = b at m ⊢
    induction m with
    | refl => exact h
    | tail _ m ih => exact keep m ih
  exact fun _ _ hs h => step_keeps (P := fun s => P s.tc) (fun _ _ h => h) (fun s => moves s.idle_cacheMoves)
    (fun i s t h he => moves (exec_cacheMoves i s t he) h) hs h

/-- Settles O55: each law is a law of the cache alone that every move of the cache keeps. -/
theorem cacheLawsKept : Obligations.CacheLawsKept :=
  ⟨keptByStep_of_tcMove TcMove.keeps_onePerPair, keptByStep_of_tcMove TcMove.keeps_recencyForm⟩

end Sys2Proof.Machine
end

section
/-!
SUPPORT. The traffic laws (R21, R42, R44, R93, R137, R138, R146) taken apart into what each block must meet: the walk
unit, the outstanding cycles, and each channel on its own; and the operations that change nothing these laws look at.
-/

namespace Sys2Proof.Machine

/-! ## The laws, block by block -/

/-- R43: the channel's transaction waits for the walk of a page. -/
def Channel.AwaitsWalk (ch : Channel) (p : Page) : Prop :=
  ∃ t access addr size, ch.txn = some t ∧ t.phase = .waitWalk ∧
    t.request.access? = some (access, addr, size) ∧ pageOf addr = p

/-- R94: the channel's transaction is a READ that waits for its line read. -/
def Channel.AwaitsRead (ch : Channel) : Prop :=
  ∃ t addr size tr, ch.txn = some t ∧ t.phase = .waitRead ∧ t.request = .read addr size ∧ t.translation = some tr

/-- A channel whose work was withdrawn while its cycles are still to return. -/
def Channel.Winding (ch : Channel) (bridge : BridgeState) : Prop :=
  ch.state = .aborting ∨ (ch.state = .disabled ∧ bridge = .resetting)

/-- R65: the states in which a transaction may be pending. -/
def Channel.Running (ch : Channel) : Prop := ch.state = .active ∨ ch.state = .faulted ∨ ch.state = .draining

/-- R138: the requester has an outstanding cycle. -/
def Outstanding (cycles : List Cycle) (r : Requester) : Prop := ∃ k ∈ cycles, k.requester = r

/-- R41 to R44: what holds within the walk unit. -/
structure WalksFit (w : WalkUnit) : Prop where
  discarded : ∀ (i : Fin 2) v, w.slots[i] = some v → v.discard = true → v.issued = true
  slots : ∀ (i j : Fin 2) v v', w.slots[i] = some v → w.slots[j] = some v' → v.chan = v'.chan → i = j
  queue : (w.queue.map WalkWait.chan).Nodup
  apart : ∀ (i : Fin 2) v, w.slots[i] = some v → v.chan ∉ w.queue.map WalkWait.chan
  full : w.queue ≠ [] → ∀ i : Fin 2, w.slots[i] ≠ none
  nodup : w.requests.Nodup
  requested : ∀ i : Fin 2, i ∈ w.requests ↔ ∃ v, w.slots[i] = some v ∧ v.issued = false

/-- R137, R138: what holds of the outstanding cycles, and of those of the walk slots and the invalidate queue, whose
entries have the issued fields `marks`. -/
structure CyclesFit (w : WalkUnit) (bus : BusMaster) (marks : List Bool) : Prop where
  few : bus.cycles.length ≤ 4
  ids : (bus.cycles.map Cycle.id).Nodup
  fresh : ∀ k ∈ bus.cycles, k.id < bus.nextId
  requesters : (bus.cycles.map Cycle.requester).Nodup
  walk : ∀ i : Fin 2, Outstanding bus.cycles (.walk i) ↔ ∃ v, w.slots[i] = some v ∧ v.issued = true
  kill : Outstanding bus.cycles .kill ↔ marks.head? = some true
  head : ∀ b ∈ marks.tail, b = false

/-- What holds of channel `c` beside the walk unit, the outstanding cycles, and the number of cache entries it holds. -/
structure ChannelFits (bridge : BridgeState) (w : WalkUnit) (cycles : List Cycle) (held : Nat) (c : Chan)
    (ch : Channel) : Prop where
  pending : ch.txn ≠ none → ch.Running
  slot : ∀ (i : Fin 2) v, w.slots[i] = some v → v.chan = c →
    (v.discard = false → ch.AwaitsWalk v.page) ∧ (v.discard = true → ch.Winding bridge)
  place : ∀ q ∈ w.queue, q.chan = c → ch.AwaitsWalk q.page
  lineRead : ∀ r, ch.lineRead = some r →
    (r.discard = false → ch.AwaitsRead) ∧ (r.discard = true → r.issued = true ∧ ch.Winding bridge)
  read : Outstanding cycles (.read c) ↔ ∃ r, ch.lineRead = some r ∧ r.issued = true
  write : Outstanding cycles (.write c) ↔ ch.buffer.state = .writing
  off : bridge = .resetting → ch.state = .disabled
  quota : held ≤ ch.desc.quota.toNat
  empty : ch.state = .disabled → held = 0

/-- R127: the issued fields of the queued invalidate entries, head first. -/
def State.marks (s : State) : List Bool := s.inv.entries.map InvEntry.issued

/-- The traffic laws block by block. -/
structure TrafficFits (s : State) : Prop where
  walks : WalksFit s.walk
  cycles : CyclesFit s.walk s.bus s.marks
  idle : s.bridge = .resetting → s.cmd.busy = false
  chan : ∀ c, ChannelFits s.bridge s.walk s.bus.cycles (s.tc.heldCount c) c (s.chan c)

/-- R42: the slots and the queue places name distinct channels. -/
theorem WalkUnit.chans_nodup_iff (w : WalkUnit) :
    ((w.slots.toList.filterMap fun x => x.map Walk.chan) ++ w.queue.map WalkWait.chan).Nodup ↔
      (∀ (i j : Fin 2) v v', w.slots[i] = some v → w.slots[j] = some v' → v.chan = v'.chan → i = j) ∧
        (w.queue.map WalkWait.chan).Nodup ∧
        ∀ (i : Fin 2) v, w.slots[i] = some v → v.chan ∉ w.queue.map WalkWait.chan := by
  have two : w.slots.toList = [w.slots[(0 : Fin 2)], w.slots[(1 : Fin 2)]] := by
    apply List.ext_getElem (by simp)
    intro i h _
    have : i = 0 ∨ i = 1 := by simp at h; omega
    rcases this with rfl | rfl <;> simp
  rw [two]
  simp only [Fin.forall_fin_two]
  generalize w.slots[(0 : Fin 2)] = a
  generalize w.slots[(1 : Fin 2)] = b
  generalize w.queue.map WalkWait.chan = l
  cases a <;> cases b <;> simp [eq_comm]
  all_goals tauto

theorem State.kill_issued_iff (s : State) : s.issued .kill ↔ s.marks.head? = some true := by
  simp only [State.issued, State.marks]
  cases s.inv.entries <;> simp

theorem headIssuedLaw_iff (s : State) : HeadIssuedLaw s ↔ ∀ b ∈ s.marks.tail, b = false := by
  simp only [HeadIssuedLaw, State.marks, ← List.map_tail, List.forall_mem_map]

theorem trafficLaws_iff (s : State) :
    TrafficLaws s ↔ TrafficFits s ∧ LegalDescriptorLaw s ∧ RecencyLaw s ∧ OneTranslationLaw s := by
  constructor
  · rintro ⟨pending, walk, read, ⟨⟨few, ids, fresh⟩, requesters, issued, head⟩, off, legal, recency, one, quota⟩
    obtain ⟨slots, places, apart, full, nodup, requested⟩ := walk
    obtain ⟨apart, queue, apart'⟩ := (s.walk.chans_nodup_iff).mp apart
    refine ⟨⟨⟨fun i v hv hd => ((slots i v hv).2 hd).1, apart, queue, apart', full, nodup, requested⟩,
      ⟨few, ids, fresh, requesters, fun i => issued (.walk i), ?_, (headIssuedLaw_iff s).mp head⟩, fun h => (off h).1,
      fun c => ?_⟩, legal, recency, one⟩
    · exact (issued .kill).trans s.kill_issued_iff
    · exact {
        pending := pending c
        slot := fun i v hv hc => hc ▸ ⟨(slots i v hv).1, fun hd => ((slots i v hv).2 hd).2⟩
        place := fun q hq hc => hc ▸ places q hq
        lineRead := read c
        read := issued (.read c)
        write := issued (.write c)
        off := fun h => (off h).2 c
        quota := (quota c).1
        empty := (quota c).2 }
  · rintro ⟨⟨walks, cycles, idle, chan⟩, legal, recency, one⟩
    refine ⟨fun c => (chan c).pending, ⟨fun i v hv => ?_, fun q hq => (chan q.chan).place q hq rfl, ?_, walks.full,
      walks.nodup, walks.requested⟩, fun c => (chan c).lineRead, ⟨⟨cycles.few, cycles.ids, cycles.fresh⟩,
      cycles.requesters, fun r => ?_, (headIssuedLaw_iff s).mpr cycles.head⟩,
      fun h => ⟨idle h, fun c => (chan c).off h⟩, legal, recency, one, fun c => ⟨(chan c).quota, (chan c).empty⟩⟩
    · have fits := (chan v.chan).slot i v hv rfl
      exact ⟨fits.1, fun hd => ⟨walks.discarded i v hv hd, fits.2 hd⟩⟩
    · exact (s.walk.chans_nodup_iff).mpr ⟨walks.slots, walks.queue, walks.apart⟩
    · cases r with
      | walk i => exact cycles.walk i
      | read c => exact (chan c).read
      | write c => exact (chan c).write
      | kill => exact cycles.kill.trans s.kill_issued_iff.symm

/-! ## Changes the laws do not see -/

/-- The walk without its stale mark (R50), which the laws do not look at. -/
def Walk.unmarked (w : Walk) : Walk := { w with stale := false }

/-- The line read without its stale-pending mark (R98), which the laws do not look at. -/
def LineRead.unmarked (r : LineRead) : LineRead := { r with stalePending := false }

/-- A channel changes in nothing the laws look at, or enters FAULTED from ACTIVE. -/
structure ChannelAlike (a b : Channel) : Prop where
  state : b.state = a.state ∨ a.state = .active ∧ b.state = .faulted
  desc : b.desc = a.desc
  pending : b.txn ≠ none → a.txn ≠ none
  awaitsWalk : ∀ p, a.AwaitsWalk p → b.AwaitsWalk p
  awaitsRead : a.AwaitsRead → b.AwaitsRead
  lineRead : b.lineRead.map LineRead.unmarked = a.lineRead.map LineRead.unmarked
  writing : b.buffer.state = .writing ↔ a.buffer.state = .writing

theorem ChannelAlike.of_txn_eq {a b : Channel}
    (state : b.state = a.state ∨ a.state = .active ∧ b.state = .faulted) (desc : b.desc = a.desc) (txn : b.txn = a.txn)
    (lineRead : b.lineRead.map LineRead.unmarked = a.lineRead.map LineRead.unmarked)
    (writing : b.buffer.state = .writing ↔ a.buffer.state = .writing) : ChannelAlike a b where
  state := state
  desc := desc
  pending := by rw [txn]; exact id
  awaitsWalk p := by simp only [Channel.AwaitsWalk, txn]; exact id
  awaitsRead := by simp only [Channel.AwaitsRead, txn]; exact id
  lineRead := lineRead
  writing := writing

theorem ChannelAlike.refl (a : Channel) : ChannelAlike a a := .of_txn_eq (.inl rfl) rfl rfl rfl Iff.rfl

theorem ChannelAlike.trans {a b c : Channel} (h₁ : ChannelAlike a b) (h₂ : ChannelAlike b c) : ChannelAlike a c where
  state := by
    rcases h₁.state with e₁ | ⟨e₁, f₁⟩ <;> rcases h₂.state with e₂ | ⟨e₂, f₂⟩
    · exact .inl (e₂.trans e₁)
    · exact .inr ⟨e₁ ▸ e₂, f₂⟩
    · exact .inr ⟨e₁, e₂.trans f₁⟩
    · rw [f₁] at e₂; cases e₂
  desc := h₂.desc.trans h₁.desc
  pending := h₁.pending ∘ h₂.pending
  awaitsWalk p := h₂.awaitsWalk p ∘ h₁.awaitsWalk p
  awaitsRead := h₂.awaitsRead ∘ h₁.awaitsRead
  lineRead := h₂.lineRead.trans h₁.lineRead
  writing := h₂.writing.trans h₁.writing

/-- Nothing changes that the laws look at, but that cache entries may go, the command unit may become IDLE, and invalidate
entries that are not issued may join the tail. -/
structure Quiet (s t : State) : Prop where
  bridge : t.bridge = s.bridge
  busy : t.cmd.busy = true → s.cmd.busy = true
  slots : ∀ i : Fin 2, t.walk.slots[i].map Walk.unmarked = s.walk.slots[i].map Walk.unmarked
  requests : t.walk.requests = s.walk.requests
  queue : t.walk.queue = s.walk.queue
  cycles : t.bus.cycles = s.bus.cycles
  nextId : t.bus.nextId = s.bus.nextId
  marks : ∃ n, t.marks = s.marks ++ List.replicate n false
  held : ∀ c, t.tc.heldCount c ≤ s.tc.heldCount c
  chan : ∀ c, ChannelAlike (s.chan c) (t.chan c)

/-- What the laws look at outside the channels. -/
def State.traffic (s : State) : BridgeState × CommandUnit × WalkUnit × BusMaster × List InvEntry × Tc :=
  (s.bridge, s.cmd, s.walk, s.bus, s.inv.entries, s.tc)

/-- An update of the channels, the waiters, or parts the laws do not look at. -/
theorem Quiet.of_chan {s t : State} (chan : ∀ c, ChannelAlike (s.chan c) (t.chan c)) (rest : t.traffic = s.traffic) :
    Quiet s t := by
  simp only [State.traffic, Prod.mk.injEq] at rest
  obtain ⟨bridge, cmd, walk, bus, entries, tc⟩ := rest
  exact
    { bridge := bridge
      busy := by rw [cmd]; exact id
      slots := fun _ => by rw [walk]
      requests := by rw [walk]
      queue := by rw [walk]
      cycles := by rw [bus]
      nextId := by rw [bus]
      marks := ⟨0, by simp [State.marks, entries]⟩
      held := fun _ => by rw [tc]
      chan := chan }

theorem Quiet.of_chans_eq {s t : State} (chans : t.chans = s.chans) (rest : t.traffic = s.traffic) : Quiet s t :=
  .of_chan (fun c => State.chan_of_chans chans c ▸ .refl _) rest

theorem Quiet.refl (s : State) : Quiet s s := .of_chans_eq rfl rfl

/-- What an operation leaves unseen after what it is applied to did. -/
theorem Quiet.after {s t u : State} (h₂ : Quiet t u) (h₁ : Quiet s t) : Quiet s u where
  bridge := h₂.bridge.trans h₁.bridge
  busy := h₁.busy ∘ h₂.busy
  slots i := (h₂.slots i).trans (h₁.slots i)
  requests := h₂.requests.trans h₁.requests
  queue := h₂.queue.trans h₁.queue
  cycles := h₂.cycles.trans h₁.cycles
  nextId := h₂.nextId.trans h₁.nextId
  marks := by
    obtain ⟨m, hm⟩ := h₁.marks
    obtain ⟨n, hn⟩ := h₂.marks
    exact ⟨m + n, by rw [hn, hm, List.append_assoc, List.replicate_append_replicate]⟩
  held c := (h₂.held c).trans (h₁.held c)
  chan c := (h₁.chan c).trans (h₂.chan c)

theorem Quiet.foldl {α : Type} {f : State → α → State} (h : ∀ s a, Quiet s (f s a)) (l : List α) (s : State) :
    Quiet s (l.foldl f s) := by
  induction l generalizing s with
  | nil => exact .refl s
  | cons a l ih => exact (ih (f s a)).after (h s a)

theorem Quiet.setChan {s : State} {c : Chan} {x : Channel} (h : ChannelAlike (s.chan c) x) : Quiet s (s.setChan c x) :=
  .of_chan (fun d => by
    rw [State.chan_setChan]
    split
    · next hd => exact hd ▸ h
    · exact .refl _) rfl

theorem Quiet.modChan {s : State} {c : Chan} {f : Channel → Channel} (h : ChannelAlike (s.chan c) (f (s.chan c))) :
    Quiet s (s.modChan c f) := .setChan h

/-- A buffer replaced, WRITING only if it was. -/
theorem Quiet.setBuffer {s : State} {c : Chan} {b : Buffer}
    (h : b.state = .writing ↔ (s.chan c).buffer.state = .writing) : Quiet s (s.setBuffer c b) :=
  .modChan (.of_txn_eq (.inl rfl) rfl rfl rfl h)

/-- The same update of one channel on both sides. -/
theorem Quiet.modChan_congr {s t : State} (h : Quiet s t) {c : Chan} {f : Channel → Channel}
    (hf : ChannelAlike (f (s.chan c)) (f (t.chan c))) : Quiet (s.modChan c f) (t.modChan c f) where
  bridge := h.bridge
  busy := h.busy
  slots := h.slots
  requests := h.requests
  queue := h.queue
  cycles := h.cycles
  nextId := h.nextId
  marks := h.marks
  held := h.held
  chan d := by
    rw [State.chan_modChan, State.chan_modChan]
    split
    · exact hf
    · exact h.chan d

/-- Walks alike but for the stale mark agree in what the laws look at. -/
theorem Walk.fields_of_unmarked_eq {v w : Walk} (h : v.unmarked = w.unmarked) :
    v.chan = w.chan ∧ v.page = w.page ∧ v.issued = w.issued ∧ v.discard = w.discard := by
  cases v; cases w
  simp_all [Walk.unmarked]

theorem LineRead.fields_of_unmarked_eq {r q : LineRead} (h : r.unmarked = q.unmarked) :
    r.issued = q.issued ∧ r.discard = q.discard := by
  cases r; cases q
  simp_all [LineRead.unmarked]

theorem Quiet.slot {s t : State} (h : Quiet s t) {i : Fin 2} {v : Walk} (hv : t.walk.slots[i] = some v) :
    ∃ v', s.walk.slots[i] = some v' ∧ v'.chan = v.chan ∧ v'.page = v.page ∧ v'.issued = v.issued ∧
      v'.discard = v.discard := by
  have same := h.slots i
  rw [hv] at same
  obtain ⟨v', hv', eq⟩ := Option.map_eq_some_iff.mp same.symm
  exact ⟨v', hv', Walk.fields_of_unmarked_eq eq⟩

theorem Quiet.symm_slot {s t : State} (h : Quiet s t) {i : Fin 2} {v : Walk} (hv : s.walk.slots[i] = some v) :
    ∃ v', t.walk.slots[i] = some v' ∧ v'.issued = v.issued := by
  have same := h.slots i
  rw [hv] at same
  obtain ⟨v', hv', eq⟩ := Option.map_eq_some_iff.mp same
  obtain ⟨-, -, issued, -⟩ := Walk.fields_of_unmarked_eq eq
  exact ⟨v', hv', issued⟩

theorem ChannelAlike.lineRead_some {a b : Channel} (h : ChannelAlike a b) {r : LineRead} (hr : b.lineRead = some r) :
    ∃ r', a.lineRead = some r' ∧ r'.issued = r.issued ∧ r'.discard = r.discard := by
  have same := h.lineRead
  rw [hr] at same
  obtain ⟨r', ha, eq⟩ := Option.map_eq_some_iff.mp same.symm
  exact ⟨r', ha, LineRead.fields_of_unmarked_eq eq⟩

theorem ChannelAlike.symm_lineRead_some {a b : Channel} (h : ChannelAlike a b) {r : LineRead}
    (hr : a.lineRead = some r) : ∃ r', b.lineRead = some r' ∧ r'.issued = r.issued ∧ r'.discard = r.discard := by
  have same := h.lineRead
  rw [hr] at same
  obtain ⟨r', ha, eq⟩ := Option.map_eq_some_iff.mp same
  exact ⟨r', ha, LineRead.fields_of_unmarked_eq eq⟩

theorem ChannelAlike.winding {a b : Channel} (h : ChannelAlike a b) {bridge : BridgeState} (w : a.Winding bridge) :
    b.Winding bridge := by
  rcases h.state with e | ⟨e, -⟩
  · simpa only [Channel.Winding, e] using w
  · rcases w with w | ⟨w, -⟩ <;> rw [e] at w <;> cases w

theorem ChannelAlike.running {a b : Channel} (h : ChannelAlike a b) (r : a.Running) : b.Running := by
  rcases h.state with e | ⟨-, e⟩
  · simpa only [Channel.Running, e] using r
  · exact .inr (.inl e)

theorem ChannelAlike.disabled_iff {a b : Channel} (h : ChannelAlike a b) : b.state = .disabled ↔ a.state = .disabled := by
  rcases h.state with e | ⟨e, e'⟩
  · rw [e]
  · simp [e, e']

theorem WalksFit.quiet {s t : State} (h : Quiet s t) (fit : WalksFit s.walk) : WalksFit t.walk where
  discarded i v hv hd := by
    obtain ⟨v', hv', -, -, issued, discard⟩ := h.slot hv
    exact issued ▸ fit.discarded i v' hv' (discard ▸ hd)
  slots i j v w hv hw hc := by
    obtain ⟨v', hv', chan, -⟩ := h.slot hv
    obtain ⟨w', hw', chan', -⟩ := h.slot hw
    exact fit.slots i j v' w' hv' hw' (by rw [chan, chan', hc])
  queue := h.queue ▸ fit.queue
  apart i v hv := by
    obtain ⟨v', hv', chan, -⟩ := h.slot hv
    rw [h.queue, ← chan]
    exact fit.apart i v' hv'
  full hq i := by
    have busy := fit.full (h.queue ▸ hq) i
    obtain ⟨v, hv⟩ := Option.ne_none_iff_exists'.mp busy
    obtain ⟨v', hv', -⟩ := h.symm_slot hv
    simp [hv']
  nodup := h.requests ▸ fit.nodup
  requested i := by
    rw [h.requests, fit.requested i]
    constructor
    · rintro ⟨v, hv, issued⟩
      obtain ⟨v', hv', eq⟩ := h.symm_slot hv
      exact ⟨v', hv', eq.trans issued⟩
    · rintro ⟨v, hv, issued⟩
      obtain ⟨v', hv', -, -, eq, -⟩ := h.slot hv
      exact ⟨v', hv', eq.trans issued⟩

theorem CyclesFit.quiet {s t : State} (h : Quiet s t) (fit : CyclesFit s.walk s.bus s.marks) :
    CyclesFit t.walk t.bus t.marks where
  few := h.cycles ▸ fit.few
  ids := h.cycles ▸ fit.ids
  fresh := by rw [h.cycles, h.nextId]; exact fit.fresh
  requesters := h.cycles ▸ fit.requesters
  walk i := by
    rw [h.cycles, fit.walk i]
    constructor
    · rintro ⟨v, hv, issued⟩
      obtain ⟨v', hv', eq⟩ := h.symm_slot hv
      exact ⟨v', hv', eq.trans issued⟩
    · rintro ⟨v, hv, issued⟩
      obtain ⟨v', hv', -, -, eq, -⟩ := h.slot hv
      exact ⟨v', hv', eq.trans issued⟩
  kill := by
    obtain ⟨n, hn⟩ := h.marks
    rw [h.cycles, fit.kill, hn]
    cases s.marks <;> cases n <;> simp [List.replicate_succ]
  head b hb := by
    obtain ⟨n, hn⟩ := h.marks
    rw [hn] at hb
    have head := fit.head
    cases hm : s.marks with
    | nil =>
      rw [hm, List.nil_append] at hb
      exact List.eq_of_mem_replicate (List.mem_of_mem_tail hb)
    | cons a l =>
      rw [hm, List.cons_append, List.tail_cons, List.mem_append] at hb
      rw [hm, List.tail_cons] at head
      exact hb.elim (head b) List.eq_of_mem_replicate

theorem ChannelFits.quiet {s t : State} (h : Quiet s t) {c : Chan}
    (fit : ChannelFits s.bridge s.walk s.bus.cycles (s.tc.heldCount c) c (s.chan c)) :
    ChannelFits t.bridge t.walk t.bus.cycles (t.tc.heldCount c) c (t.chan c) := by
  have alike := h.chan c
  rw [h.bridge, h.cycles]
  exact {
    pending := fun hn => alike.running (fit.pending (alike.pending hn))
    slot := fun i v hv hc => by
      obtain ⟨v', hv', chan, page, -, discard⟩ := h.slot hv
      have old := fit.slot i v' hv' (chan.trans hc)
      rw [page, discard] at old
      exact ⟨fun hd => alike.awaitsWalk _ (old.1 hd), fun hd => alike.winding (old.2 hd)⟩
    place := fun q hq hc => alike.awaitsWalk _ (fit.place q (h.queue ▸ hq) hc)
    lineRead := fun r hr => by
      obtain ⟨r', hr', issued, discard⟩ := alike.lineRead_some hr
      have old := fit.lineRead r' hr'
      rw [issued, discard] at old
      exact ⟨fun hd => alike.awaitsRead (old.1 hd), fun hd => ⟨(old.2 hd).1, alike.winding (old.2 hd).2⟩⟩
    read := by
      rw [fit.read]
      constructor
      · rintro ⟨r, hr, issued⟩
        obtain ⟨r', hr', eq, -⟩ := alike.symm_lineRead_some hr
        exact ⟨r', hr', eq.trans issued⟩
      · rintro ⟨r, hr, issued⟩
        obtain ⟨r', hr', eq, -⟩ := alike.lineRead_some hr
        exact ⟨r', hr', eq.trans issued⟩
    write := fit.write.trans alike.writing.symm
    off := fun hb => alike.disabled_iff.mpr (fit.off hb)
    quota := alike.desc ▸ (h.held c).trans fit.quota
    empty := fun hs => Nat.eq_zero_of_le_zero (fit.empty (alike.disabled_iff.mp hs) ▸ h.held c) }

theorem TrafficFits.quiet {s t : State} (h : Quiet s t) (fit : TrafficFits s) : TrafficFits t where
  walks := fit.walks.quiet h
  cycles := fit.cycles.quiet h
  idle hb := by
    have idle := fit.idle (h.bridge ▸ hb)
    cases hc : t.cmd.busy with
    | false => rfl
    | true => rw [h.busy hc] at idle; cases idle
  chan c := (fit.chan c).quiet h

end Sys2Proof.Machine
end

section
/-!
SUPPORT. The operations that are `Quiet`: flushes, faults handed to the log, invalidate places, drops of cache entries,
observed writes, time, and the registers.
-/

namespace Sys2Proof.Machine

/-! ## Held counts (R21) -/

theorem Tc.belongs_iff (t : Tc) (c : Chan) (i : Fin 16) :
    t.belongs c i = true ↔ ∃ e, t.entries[i] = some e ∧ e.chan = c := by
  unfold Tc.belongs
  split <;> simp_all

theorem Tc.heldCount_eq_zero_iff (t : Tc) (c : Chan) :
    t.heldCount c = 0 ↔ ∀ (i : Fin 16) e, t.entries[i] = some e → e.chan ≠ c := by
  simp only [Tc.heldCount, List.countP_eq_zero, List.mem_finRange, true_implies, Tc.belongs_iff]
  simp

theorem Tc.heldCount_dropWhere_le (t : Tc) (p : TcEntry → Bool) (c : Chan) :
    (t.dropWhere p).heldCount c ≤ t.heldCount c := by
  refine List.countP_mono_left fun i _ h => ?_
  obtain ⟨e, he, hc⟩ := (Tc.belongs_iff ..).mp h
  exact (Tc.belongs_iff ..).mpr ⟨e, (Tc.dropWhere_some he).1, hc⟩

/-- R38: a channel whose entries are dropped holds none. -/
theorem Tc.heldCount_dropWhere_chan (t : Tc) (c : Chan) : (t.dropWhere fun e => e.chan == c).heldCount c = 0 := by
  refine (Tc.heldCount_eq_zero_iff ..).mpr fun i e he => ?_
  have kept := (Tc.dropWhere_some he).2
  simpa using kept

/-! ## Quiet operations -/

section
variable (s : State) (c : Chan)

theorem State.takeFault_quiet (k : Access) (a : ChanAddr) (x : Cause) : Quiet s (s.takeFault c k a x) :=
  .of_chan (fun d => by rw [State.chan_takeFault]; exact .refl _)
    (by simp [State.traffic])

theorem State.flushBuffer_quiet : Quiet s (s.flushBuffer c) := by
  refine .of_chan (fun d => ?_) (by simp [State.traffic, s.flushBuffer_entries c])
  by_cases hd : d = c
  · subst hd
    have closed := s.flushBuffer_buffer_state d
    rw [State.flushBuffer_chan_self]
    refine .of_txn_eq (.inl rfl) rfl rfl rfl ?_
    rw [closed]
    split <;> simp_all
  · rw [State.flushBuffer_chan_ne s hd]
    exact .refl _

theorem State.enterFaulted_quiet : Quiet s (s.enterFaulted c) := by
  unfold State.enterFaulted
  split
  · next active =>
    refine .after (.modChan (.of_txn_eq (.inr ⟨?_, rfl⟩) rfl rfl rfl Iff.rfl)) (s.flushBuffer_quiet c)
    rw [State.flushBuffer_chan_self]
    exact active
  · exact .refl s

theorem State.grantPlace_quiet : Quiet s s.grantPlace := by
  obtain ⟨h, -⟩ | ⟨c, rest, -, -, h⟩ := s.grantPlace_cases
  · rw [h]; exact .refl s
  · rw [h]; exact .after (.setBuffer Iff.rfl) (.of_chans_eq rfl rfl)

theorem State.releaseReservation_quiet : Quiet s (s.releaseReservation c) :=
  (State.grantPlace_quiet _).after (.setBuffer Iff.rfl)

/-- R127: a queue result issues no entry, and takes back none. -/
theorem State.queueInvalidate_quiet (line : Word) : Quiet s (s.queueInvalidate c line) := by
  have entries (l : List InvEntry) (h : ∃ n, l.map InvEntry.issued = s.marks ++ List.replicate n false) :
      Quiet s { s with inv := { s.inv with entries := l } } :=
    { Quiet.refl s with marks := h }
  simp only [State.queueInvalidate]
  split
  · refine (State.releaseReservation_quiet ..).after (entries _ ⟨0, ?_⟩)
    have kept (e : InvEntry) : (e.add c).issued = e.issued := by unfold InvEntry.add; split <;> rfl
    simp only [State.marks, List.map_map, List.replicate_zero, List.append_nil]
    refine List.map_congr_left fun e _ => ?_
    simp only [Function.comp]
    split
    · exact kept e
    · rfl
  · exact .after (.setBuffer Iff.rfl) (entries _ ⟨1, by simp [State.marks]⟩)

theorem State.resolveReservation_quiet : Quiet s (s.resolveReservation c) := by
  simp only [State.resolveReservation]
  repeat' split
  · exact (State.queueInvalidate_quiet ..).after (.of_chans_eq rfl rfl)
  · exact (State.releaseReservation_quiet ..).after (.of_chans_eq rfl rfl)
  · exact .refl s

/-- R64: only a SYNC is marked. -/
theorem Channel.markWriteError_of_access {ch : Channel} {t : Transaction} (ht : ch.txn = some t)
    (access : t.request ≠ .sync) : ch.markWriteError.txn = some t := by
  simp [Channel.markWriteError, ht, access]

theorem ChannelAlike.markWriteError (ch : Channel) : ChannelAlike ch ch.markWriteError where
  state := .inl rfl
  desc := rfl
  pending h h' := h (by simp [Channel.markWriteError, h'])
  awaitsWalk p := by
    rintro ⟨t, access, addr, size, ht, hp, ha, page⟩
    exact ⟨t, access, addr, size, Channel.markWriteError_of_access ht (Request.ne_sync_of_access ha), hp, ha, page⟩
  awaitsRead := by
    rintro ⟨t, addr, size, tr, ht, hp, hr, htr⟩
    exact ⟨t, addr, size, tr, Channel.markWriteError_of_access ht (by simp [hr]), hp, hr, htr⟩
  lineRead := rfl
  writing := Iff.rfl

theorem State.writeBusError_quiet : Quiet s (s.writeBusError c) :=
  .after (.modChan (.markWriteError _)) ((State.enterFaulted_quiet ..).after (s.takeFault_quiet ..))

/-- R91: only a buffer that is not WRITING is discarded. -/
theorem State.discardBuffer_quiet : Quiet s (s.discardBuffer c) := by
  have cleared (h : (s.chan c).buffer.state ≠ .writing) (inv : InvQueue) (same : inv.entries = s.inv.entries) :
      Quiet s (({ s with inv := inv } : State).setBuffer c Buffer.cleared) := by
    refine .after (.setBuffer ?_) (.of_chans_eq rfl (by simp [State.traffic, same]))
    simpa [Buffer.cleared] using h
  simp only [State.discardBuffer]
  cases hb : (s.chan c).buffer.state with
  | empty | writing => exact .refl s
  | filling | pending =>
    dsimp only
    split
    · exact (State.grantPlace_quiet _).after (cleared (by simp [hb]) _ rfl)
    · exact cleared (by simp [hb]) _ rfl

theorem State.expireTimer_quiet : Quiet s (s.expireTimer c) := by
  unfold State.expireTimer
  split
  · exact s.flushBuffer_quiet c
  · exact .refl s

end

section
variable (s : State)

/-- Entries dropped and issued walks stale-marked (R50, R51). -/
theorem Quiet.markStale (p : TcEntry → Bool) (q : Walk → Bool) :
    Quiet s { s with tc := s.tc.dropWhere p, walk := s.walk.markStale q } :=
  { Quiet.refl s with
    slots := fun i => by
      simp only [WalkUnit.markStale, Fin.getElem_fin, Vector.getElem_map, Option.map_map]
      refine Option.map_congr fun w _ => ?_
      simp only [Function.comp]
      split <;> rfl
    held := fun c => s.tc.heldCount_dropWhere_le p c }

theorem State.observe_chan (w : BusWrite) (c : Chan) : (s.observe w).chan c = (s.chan c).observe w :=
  State.chan_mapChans ..

theorem State.observe_quiet (w : BusWrite) : Quiet s (s.observe w) := by
  refine .after (.of_chan (fun c => ?_) (by rfl)) (Quiet.markStale ..)
  rw [State.observe_chan]
  refine .of_txn_eq (.inl rfl) rfl rfl ?_ Iff.rfl
  simp only [Channel.observe, Option.map_map]
  refine Option.map_congr fun r _ => ?_
  simp only [Function.comp]
  split <;> rfl

theorem State.served_quiet (u : PortUser) : Quiet s (s.served u) := { Quiet.refl s with held := fun _ => le_rfl }

theorem State.flushExpired_quiet : Quiet s s.flushExpired := by
  simp only [State.flushExpired]
  split
  · exact .foldl State.flushBuffer_quiet ..
  · exact .after (.foldl State.flushBuffer_quiet ..) (.of_chans_eq rfl rfl)

theorem State.tick_quiet : Quiet s s.tick := by
  unfold State.tick
  split
  · exact .refl s
  · refine (State.flushExpired_quiet _).after (.of_chan (fun c => ?_) rfl)
    rw [State.chan_mapChans]
    unfold Channel.lowerTimer
    split
    · exact .of_txn_eq (.inl rfl) rfl rfl rfl Iff.rfl
    · exact .refl _

theorem State.clockPeriod_quiet : Quiet s s.clockPeriod := by
  unfold State.clockPeriod
  repeat' split
  · exact .refl s
  · exact .of_chans_eq rfl rfl
  · exact s.tick_quiet

theorem State.takeFill_quiet (line : Word) (w : Way) : Quiet s (s.takeFill line w) :=
  .of_chans_eq (s.takeFill_chans line w) (by simp [State.traffic])

theorem State.takeSweepStep_quiet : Quiet s s.takeSweepStep :=
  .of_chans_eq s.takeSweepStep_chans (by simp [State.traffic])

theorem State.writeShadowControl_quiet (mode : BitVec 2) (mask : BitVec 8) : Quiet s (s.writeShadowControl mode mask) :=
  .of_chans_eq (s.writeShadowControl_chans mode mask) (by simp [State.traffic])

theorem State.clearTags_quiet : Quiet s s.clearTags.1 :=
  .of_chans_eq s.clearTags_chans (by simp [State.traffic])

/-- R171: a command that completes leaves the unit IDLE. -/
theorem State.completeCommand_quiet (n : CommandName) (channel : BitVec 4) (page : BitVec 14) (o : CmdOutcome) :
    Quiet s (s.completeCommand n channel page o) := { Quiet.refl s with busy := nofun }

theorem State.serveCommand_quiet : Quiet s s.serveCommand := by
  unfold State.serveCommand
  dsimp only
  split
  · exact .refl s
  · split
    · exact (State.completeCommand_quiet ..).after { Quiet.refl s with held := fun _ => le_rfl }
    · exact (State.completeCommand_quiet ..).after (Quiet.markStale ..)

theorem State.commandService_quiet : Quiet s s.commandService := by
  unfold State.commandService
  split
  · exact (State.serveCommand_quiet _).after (s.served_quiet _)
  · exact .refl s

theorem State.releaseReset_quiet (wsel1 wsel0 : Bool) : Quiet s (s.releaseReset wsel1 wsel0) := by
  refine .of_chan (fun c => ?_) rfl
  have released : (s.releaseReset wsel1 wsel0).chan c = (s.chan c).atRelease := State.chan_with_chans_map ..
  rw [released, Channel.atRelease]
  split
  · exact .refl _
  · exact .of_txn_eq (.inl rfl) rfl rfl rfl Iff.rfl

end

end Sys2Proof.Machine
end

section
/-!
SUPPORT. Where an install goes (R20, R29, R30): the least recent of some entries as a place in the recency list, the
victim, and what an install does to the held counts (R21); and O22, which is the choice of the place.
-/

namespace Sys2Proof.Machine

/-! ## The least recent entry (R20) -/

theorem idxOf_pairwise {α : Type} [DecidableEq α] {l : List α} (nodup : l.Nodup) :
    l.Pairwise fun a b => l.idxOf a < l.idxOf b := by
  refine List.pairwise_iff_getElem.mpr fun i j hi hj hij => ?_
  rwa [nodup.idxOf_getElem i hi, nodup.idxOf_getElem j hj]

/-- R20: searched from the far end, the recency list yields the entry that stands behind all others that qualify. -/
theorem Tc.RecencyForm.find_reverse_iff {t : Tc} (h : t.RecencyForm) (p : Fin 16 → Bool) (i : Fin 16) :
    t.recency.reverse.find? p = some i ↔
      p i = true ∧ ∀ j, p j = true → j ≠ i → t.recency.idxOf j < t.recency.idxOf i := by
  obtain ⟨nodup, -, all⟩ := h
  have order : t.recency.reverse.Pairwise fun a b =>
      t.recency.length - t.recency.idxOf a < t.recency.length - t.recency.idxOf b := by
    refine List.pairwise_reverse.mpr ((idxOf_pairwise nodup).imp_of_mem fun {a b} _ hb hab => ?_)
    have := List.idxOf_lt_length_iff.mpr hb
    omega
  rw [find_eq_some_iff_least order fun j => List.mem_reverse.mpr (all j)]
  refine and_congr_right fun _ => forall₂_congr fun j hj => ?_
  have hi := List.idxOf_lt_length_iff.mpr (all i)
  have hj := List.idxOf_lt_length_iff.mpr (all j)
  constructor
  · intro least hne
    have apart : t.recency.idxOf j ≠ t.recency.idxOf i := fun e => hne ((List.idxOf_inj (all j)).mp e)
    omega
  · intro behind
    by_cases e : j = i
    · rw [e]
    · have := behind e
      omega

theorem Tc.RecencyForm.leastRecentOf_iff {t : Tc} (h : t.RecencyForm) (c : Chan) (i : Fin 16) :
    t.leastRecentOf c = some i ↔
      t.belongs c i = true ∧ ∀ j, t.belongs c j = true → j ≠ i → t.recency.idxOf j < t.recency.idxOf i :=
  h.find_reverse_iff _ i

/-- R21: a channel that holds an entry has a least recent one. -/
theorem Tc.RecencyForm.leastRecentOf_isSome {t : Tc} (h : t.RecencyForm) {c : Chan} (holds : t.heldCount c ≠ 0) :
    ∃ i, t.leastRecentOf c = some i := by
  obtain ⟨j, -, hj⟩ := List.countP_pos_iff.mp (Nat.pos_of_ne_zero holds)
  refine Option.ne_none_iff_exists'.mp fun hn => ?_
  exact List.find?_eq_none.mp hn j (List.mem_reverse.mpr (h.2.2 j)) hj

/-! ## The victim (R30) -/

section
variable {t : Tc} {e : TcEntry} {quota : Nat}

/-- R29: without an entry of its pair, an install goes to the victim. -/
theorem Tc.place_of_no_pair (h : ∀ (j : Fin 16) x, t.entries[j] = some x → ¬ (x.chan = e.chan ∧ x.page = e.page)) :
    t.place e quota = t.victim e.chan quota := by
  cases hf : t.find e.chan e.page with
  | none => simp [Tc.place, hf]
  | some found =>
    obtain ⟨i, x⟩ := found
    obtain ⟨hx, hc, hp⟩ := Tc.find_some hf
    exact absurd ⟨hc, hp⟩ (h i x hx)

theorem Tc.victim_of_quota {c : Chan} {i : Fin 16} (full : t.heldCount c = quota) (own : t.leastRecentOf c = some i) :
    t.victim c quota = i := by
  simp [Tc.victim, full, own]

theorem Tc.lowestFree_iff (i : Fin 16) :
    t.lowestFree = some i ↔ t.entries[i] = none ∧ ∀ j : Fin 16, t.entries[j] = none → i ≤ j := by
  rw [Tc.lowestFree, find_eq_some_iff_least (wait := Fin.val) (by decide) List.mem_finRange]
  simp

theorem Tc.victim_of_free {c : Chan} {i : Fin 16} (room : t.heldCount c ≠ quota) (free : t.lowestFree = some i) :
    t.victim c quota = i := by
  simp [Tc.victim, room, free]

theorem Tc.victim_of_all_valid {c : Chan} {i : Fin 16} (room : t.heldCount c ≠ quota)
    (valid : ∀ j : Fin 16, t.entries[j] ≠ none) (least : t.leastRecent = some i) : t.victim c quota = i := by
  have free : t.lowestFree = none := List.find?_eq_none.mpr fun j _ => by simpa using valid j
  simp [Tc.victim, room, free, least]

/-- R29, R30: an install for a channel that holds its quota goes to an entry of that channel. -/
theorem Tc.RecencyForm.place_belongs (h : t.RecencyForm) (positive : 1 ≤ quota) (full : t.heldCount e.chan = quota) :
    t.belongs e.chan (t.place e quota) = true := by
  cases hf : t.find e.chan e.page with
  | none =>
    obtain ⟨i, hi⟩ := h.leastRecentOf_isSome (c := e.chan) (by omega)
    rw [Tc.place_of_no_pair (Tc.find_none hf), Tc.victim_of_quota full hi]
    exact ((h.leastRecentOf_iff _ i).mp hi).1
  | some found =>
    obtain ⟨i, x⟩ := found
    obtain ⟨hx, hc, -⟩ := Tc.find_some hf
    simp only [Tc.place, hf]
    exact (Tc.belongs_iff ..).mpr ⟨x, hx, hc⟩

/-! ## Held counts after an install (R21) -/

theorem Tc.install_belongs_iff (d : Chan) (j : Fin 16) :
    (t.install e quota).belongs d j = true ↔
      if t.place e quota = j then e.chan = d else t.belongs d j = true := by
  rw [Tc.belongs_iff, Tc.install_entries]
  split
  · simp
  · rw [Tc.belongs_iff]

theorem Tc.heldCount_install_of_ne {d : Chan} (hd : e.chan ≠ d) :
    (t.install e quota).heldCount d ≤ t.heldCount d := by
  refine List.countP_mono_left fun j _ h => ?_
  rw [Tc.install_belongs_iff] at h
  split at h
  · exact absurd h hd
  · exact h

/-- One more element that qualifies adds at most one to a count. -/
theorem countP_le_add_count {α : Type} [DecidableEq α] {p q : α → Bool} {i : α} (h : ∀ a, a ≠ i → p a = true → q a = true)
    (l : List α) : l.countP p ≤ l.countP q + l.count i := by
  induction l with
  | nil => simp
  | cons a l ih =>
    have head : (if p a = true then 1 else 0) ≤ (if q a = true then 1 else 0) + if (a == i) = true then 1 else 0 := by
      by_cases ha : a = i
      · simp [ha]; split <;> omega
      · have := h a ha
        cases hp : p a <;> simp_all
    simp only [List.countP_cons, List.count_cons]
    omega

theorem Tc.RecencyForm.heldCount_install_le (h : t.RecencyForm) (positive : 1 ≤ quota)
    (within : t.heldCount e.chan ≤ quota) : (t.install e quota).heldCount e.chan ≤ quota := by
  by_cases full : t.heldCount e.chan = quota
  · have own := h.place_belongs positive full
    refine le_trans (List.countP_mono_left fun j _ hj => ?_) within
    rw [Tc.install_belongs_iff] at hj
    split at hj
    · next same => exact same ▸ own
    · exact hj
  · have one : (List.finRange 16).count (t.place e quota) = 1 :=
      List.count_eq_one_of_mem (List.nodup_finRange 16) (List.mem_finRange _)
    have more : (t.install e quota).heldCount e.chan ≤ t.heldCount e.chan + (List.finRange 16).count (t.place e quota) :=
      countP_le_add_count (fun j hj hb => by rwa [Tc.install_belongs_iff, if_neg (Ne.symm hj)] at hb) _
    omega

end

/-- Settles O22: the entry of the pair, else the victim by the first of the three steps that applies. -/
theorem installPlace : Obligations.InstallPlace := by
  intro s e quota one recency positive held count t
  have held_iff (i : Fin 16) : held i ↔ s.tc.belongs e.chan i = true := (Tc.belongs_iff ..).symm
  have counted : count = s.tc.heldCount e.chan := by
    simp only [count, Tc.heldCount, List.countP_eq_length_filter]
    congr 2
    funext i
    unfold Tc.belongs
    cases s.tc.entries[i] <;> rfl
  have form : s.tc.RecencyForm := recency
  refine ⟨s.tc.place e quota, rfl, fun ⟨j, x, hx, hc, hp⟩ => ?_, fun noPair => ?_⟩
  · rw [Tc.place_of_pair one hx hc hp]
    exact ⟨x, hx, hc, hp⟩
  rw [Tc.place_of_no_pair noPair, counted]
  refine ⟨fun full => ?_, fun room ⟨j, hj⟩ => ?_, fun room valid => ?_⟩
  · obtain ⟨i, hi⟩ := form.leastRecentOf_isSome (c := e.chan) (by omega)
    rw [Tc.victim_of_quota full hi]
    simp only [held_iff]
    exact (form.leastRecentOf_iff _ i).mp hi
  · obtain ⟨i, hi⟩ : ∃ i, s.tc.lowestFree = some i :=
      Option.ne_none_iff_exists'.mp fun hn => by simpa [hj] using List.find?_eq_none.mp hn j (List.mem_finRange j)
    rw [Tc.victim_of_free room hi]
    exact (Tc.lowestFree_iff i).mp hi
  · obtain ⟨i, hi⟩ : ∃ i, s.tc.leastRecent = some i :=
      Option.ne_none_iff_exists'.mp fun hn => valid 0 (by
        simpa using List.find?_eq_none.mp hn 0 (List.mem_reverse.mpr (form.2.2 0)))
    rw [Tc.victim_of_all_valid room valid hi]
    intro j hj
    exact ((form.find_reverse_iff _ i).mp hi).2 j (by simpa [Option.isSome_iff_ne_none] using valid j) hj

end Sys2Proof.Machine
end

section
/-!
SUPPORT. The operations on the path of an access keep the traffic laws: answers, faults, the wait for a buffer, the read
path, the test of the conditions, and the taking of a request.
-/

namespace Sys2Proof.Machine

/-! ## A channel replaced -/

theorem TrafficFits.setChan {s : State} (fit : TrafficFits s) {c : Chan} {x : Channel}
    (h : ChannelFits s.bridge s.walk s.bus.cycles (s.tc.heldCount c) c x) : TrafficFits (s.setChan c x) where
  walks := fit.walks
  cycles := fit.cycles
  idle := fit.idle
  chan d := by
    rw [State.chan_setChan]
    split
    · next hd => exact hd ▸ h
    · exact fit.chan d

/-- No walk and no line read of the channel's transaction is on its way: those that there are, are discarded. -/
structure Unengaged (s : State) (c : Chan) : Prop where
  slot : ∀ (i : Fin 2) v, s.walk.slots[i] = some v → v.chan = c → v.discard = true
  place : ∀ q ∈ s.walk.queue, q.chan ≠ c
  lineRead : ∀ r, (s.chan c).lineRead = some r → r.discard = true

theorem TrafficFits.unengaged {s : State} (fit : TrafficFits s) {c : Chan} (walk : ∀ p, ¬ (s.chan c).AwaitsWalk p)
    (read : ¬ (s.chan c).AwaitsRead) : Unengaged s c where
  slot i v hv hc := by
    by_contra kept
    exact walk _ (((fit.chan c).slot i v hv hc).1 (by simpa using kept))
  place q hq hc := walk _ ((fit.chan c).place q hq hc)
  lineRead r hr := by
    by_contra kept
    exact read (((fit.chan c).lineRead r hr).1 (by simpa using kept))

theorem Channel.not_awaitsWalk_of_none {ch : Channel} (h : ch.txn = none) (p : Page) : ¬ ch.AwaitsWalk p := by
  rintro ⟨t, -, -, -, ht, -⟩
  rw [h] at ht; cases ht

theorem Channel.not_awaitsRead_of_none {ch : Channel} (h : ch.txn = none) : ¬ ch.AwaitsRead := by
  rintro ⟨t, -, -, -, ht, -⟩
  rw [h] at ht; cases ht

theorem TrafficFits.unengaged_of_none {s : State} (fit : TrafficFits s) {c : Chan} (h : (s.chan c).txn = none) :
    Unengaged s c := fit.unengaged (Channel.not_awaitsWalk_of_none h) (Channel.not_awaitsRead_of_none h)

/-- A transaction that waits for neither a walk nor a line read. -/
theorem TrafficFits.unengaged_of_phase {s : State} (fit : TrafficFits s) {c : Chan} {t : Transaction}
    (ht : (s.chan c).txn = some t) (walk : t.phase ≠ .waitWalk) (read : t.phase ≠ .waitRead) : Unengaged s c := by
  refine fit.unengaged (fun p => ?_) ?_
  · rintro ⟨t', -, -, -, ht', hp, -⟩
    rw [ht] at ht'; cases ht'
    exact walk hp
  · rintro ⟨t', -, -, -, ht', hp, -⟩
    rw [ht] at ht'; cases ht'
    exact read hp

theorem TrafficFits.unengaged_of_sync {s : State} (fit : TrafficFits s) {c : Chan} {t : Transaction}
    (ht : (s.chan c).txn = some t) (sync : t.request = .sync) : Unengaged s c := by
  refine fit.unengaged (fun p => ?_) ?_
  · rintro ⟨t', access, addr, size, ht', -, ha, -⟩
    rw [ht] at ht'; cases ht'
    rw [sync] at ha; cases ha
  · rintro ⟨t', addr, size, tr, ht', -, hr, -⟩
    rw [ht] at ht'; cases ht'
    rw [sync] at hr; cases hr

theorem Quiet.unengaged {s t : State} (h : Quiet s t) {c : Chan} (free : Unengaged s c) : Unengaged t c where
  slot i v hv hc := by
    obtain ⟨v', hv', chan, -, -, discard⟩ := h.slot hv
    exact discard ▸ free.slot i v' hv' (chan.trans hc)
  place := h.queue ▸ free.place
  lineRead r hr := by
    obtain ⟨r', hr', -, discard⟩ := (h.chan c).lineRead_some hr
    exact discard ▸ free.lineRead r' hr'

theorem Channel.Running.not_winding {ch : Channel} (h : ch.Running) (bridge : BridgeState) : ¬ ch.Winding bridge := by
  rcases h with h | h | h <;> simp [Channel.Winding, h]

/-- R93: an unengaged channel with a transaction pending has no line read at all. -/
theorem TrafficFits.lineRead_none {s : State} (fit : TrafficFits s) {c : Chan} (free : Unengaged s c)
    (running : (s.chan c).Running) : (s.chan c).lineRead = none := by
  cases h : (s.chan c).lineRead with
  | none => rfl
  | some r => exact absurd (((fit.chan c).lineRead r h).2 (free.lineRead r h)).2 (running.not_winding _)

/-- The transaction of an unengaged channel ends, is taken, or goes on in another phase. -/
theorem TrafficFits.setTxn {s : State} (fit : TrafficFits s) {c : Chan} (free : Unengaged s c) {x : Channel}
    (state : x.state = (s.chan c).state) (desc : x.desc = (s.chan c).desc) (buffer : x.buffer = (s.chan c).buffer)
    (lineRead : x.lineRead = (s.chan c).lineRead) (pending : x.txn ≠ none → (s.chan c).Running) :
    TrafficFits (s.setChan c x) := by
  have old := fit.chan c
  refine fit.setChan {
    pending := fun h => by simpa only [Channel.Running, state] using pending h
    slot := fun i v hv hc => ?_
    place := fun q hq hc => absurd hc (free.place q hq)
    lineRead := fun r hr => ?_
    read := by rw [lineRead]; exact old.read
    write := by rw [buffer]; exact old.write
    off := by rw [state]; exact old.off
    quota := by rw [desc]; exact old.quota
    empty := by rw [state]; exact old.empty }
  · have gone := free.slot i v hv hc
    refine ⟨fun kept => ?_, fun hd => ?_⟩
    · rw [gone] at kept; cases kept
    · simpa only [Channel.Winding, state] using (old.slot i v hv hc).2 hd
  · rw [lineRead] at hr
    have gone := free.lineRead r hr
    refine ⟨fun kept => ?_, fun hd => ?_⟩
    · rw [gone] at kept; cases kept
    · simpa only [Channel.Winding, state] using (old.lineRead r hr).2 hd

/-! ## The path of an access -/

section
variable {s : State} (fit : TrafficFits s) {c : Chan} (free : Unengaged s c)
include fit free

theorem TrafficFits.answer (a : Answer) : TrafficFits (s.answer c a) :=
  fit.setTxn free rfl rfl rfl rfl fun h => absurd rfl h

theorem TrafficFits.failTransaction (k : Access) (a : ChanAddr) (x : Cause) (y : Answer) :
    TrafficFits (s.failTransaction c k a x y) :=
  (fit.answer free y).quiet ((State.enterFaulted_quiet ..).after (State.takeFault_quiet ..))

theorem TrafficFits.failWalk (x : Cause) : TrafficFits (s.failWalk c x) := by
  unfold State.failWalk
  repeat' split
  · exact fit
  · exact fit.failTransaction free ..
  · exact fit

variable {t : Transaction} (ht : (s.chan c).txn = some t)
include ht

theorem TrafficFits.waitForBuffer (tr : Translation) : TrafficFits (s.waitForBuffer c tr) :=
  fit.setTxn free rfl rfl rfl rfl fun _ => (fit.chan c).pending (by simp [ht])

theorem TrafficFits.flushBuffer_waitForBuffer (tr : Translation) :
    TrafficFits ((s.flushBuffer c).waitForBuffer c tr) :=
  (fit.quiet (s.flushBuffer_quiet c)).waitForBuffer ((s.flushBuffer_quiet c).unengaged free)
    (by rw [State.flushBuffer_chan_self]; exact ht) tr

theorem TrafficFits.requestLineRead {addr : ChanAddr} {size : Size} (read : t.request = .read addr size)
    (tr : Translation) : TrafficFits (s.requestLineRead c tr) := by
  have old := fit.chan c
  have running := old.pending (by simp [ht])
  have idle : ¬ Outstanding s.bus.cycles (.read c) := by
    rw [old.read, fit.lineRead_none free running]
    rintro ⟨r, hr, -⟩
    cases hr
  refine fit.setChan {
    pending := fun _ => running
    slot := fun i v hv hc => ?_
    place := fun q hq hc => absurd hc (free.place q hq)
    lineRead := fun r hr => ?_
    read := iff_of_false idle (by simp)
    write := old.write
    off := old.off
    quota := old.quota
    empty := old.empty }
  · exact absurd ((old.slot i v hv hc).2 (free.slot i v hv hc)) (running.not_winding _)
  · cases hr
    exact ⟨fun _ => ⟨_, addr, size, tr, congrArg (Option.map _) ht, rfl, read, rfl⟩, nofun⟩

theorem TrafficFits.placeRead {addr : ChanAddr} {size : Size} (read : t.request = .read addr size) (tr : Translation) :
    TrafficFits (s.placeRead c size tr) := by
  simp only [State.placeRead, State.serveRead]
  repeat' split
  · exact fit.flushBuffer_waitForBuffer free ht tr
  · exact fit.answer free _
  · exact fit.requestLineRead free ht read tr

omit ht in
theorem TrafficFits.mergeWrite {tr : Translation}
    (mergeable : (s.chan c).buffer.state = .empty ∨
      ((s.chan c).buffer.state = .filling ∧ (s.chan c).buffer.line = tr.line)) (addr : ChanAddr) (data : WriteData) :
    TrafficFits (s.mergeWrite c addr data tr) := by
  obtain ⟨timer, -, eq⟩ := s.mergeWrite_eq c addr data tr
  obtain ⟨filling, -⟩ := Buffer.mergeBase_merged mergeable addr data timer
  rw [eq]
  dsimp only
  generalize ((s.chan c).buffer.mergeBase tr addr).merge tr data timer = m at filling ⊢
  have merged : Quiet s (s.setBuffer c m) := .setBuffer (by rcases mergeable with h | ⟨h, -⟩ <;> simp [filling, h])
  have answered := (fit.quiet merged).answer (merged.unengaged free) (.done [])
  split
  · exact answered.quiet (State.flushBuffer_quiet ..)
  · exact answered

theorem TrafficFits.placeWrite (addr : ChanAddr) (data : WriteData) (tr : Translation) :
    TrafficFits (s.placeWrite c addr data tr) := by
  cases h : (s.chan c).buffer.state with
  | empty =>
    simp only [State.placeWrite, h]
    exact fit.mergeWrite free (.inl h) addr data
  | filling =>
    simp only [State.placeWrite, h]
    split
    · next line => exact fit.mergeWrite free (.inr ⟨h, line⟩) addr data
    · exact fit.flushBuffer_waitForBuffer free ht tr
  | pending | writing =>
    simp only [State.placeWrite, h]
    exact fit.waitForBuffer free ht tr

omit ht in
theorem TrafficFits.checkRights (x : Xlat) : TrafficFits (s.checkRights c x) := by
  unfold State.checkRights
  split
  · exact fit
  · next t ht =>
    split
    · next read =>
      split
      · exact fit.placeRead free ht read _
      · exact fit.failTransaction free ..
    · split
      · exact fit.placeWrite free ht ..
      · exact fit.failTransaction free ..
    · exact fit

end

/-! ## The test of the conditions -/

theorem State.inSlot_eq_false_iff (s : State) (c : Chan) :
    s.inSlot c = false ↔ ∀ (i : Fin 2) v, s.walk.slots[i] = some v → v.chan ≠ c := by
  have any : s.inSlot c = true ↔ ∃ (i : Fin 2) (v : Walk), s.walk.slots[i] = some v ∧ v.chan = c := by
    simp only [State.inSlot, List.any_eq_true, Vector.mem_toList_iff]
    constructor
    · rintro ⟨x, hx, h⟩
      obtain ⟨i, hi, rfl⟩ := Vector.getElem_of_mem hx
      split at h
      · next v hv => exact ⟨⟨i, hi⟩, v, hv, by simpa using h⟩
      · cases h
    · rintro ⟨i, v, hv, hc⟩
      exact ⟨some v, hv ▸ Vector.getElem_mem i.isLt, by simpa using hc⟩
  rw [← Bool.not_eq_true, any]
  push Not
  exact Iff.rfl

/-- R38, R69, R71: a channel with nothing left on its way reaches DISABLED. -/
theorem TrafficFits.reachDisabled {s : State} (fit : TrafficFits s) {c : Chan} (txn : (s.chan c).txn = none)
    (slot : s.inSlot c = false) (lineRead : (s.chan c).lineRead = none) : TrafficFits (s.reachDisabled c) := by
  have dropped (d : Chan) : (s.reachDisabled c).tc.heldCount d ≤ s.tc.heldCount d := Tc.heldCount_dropWhere_le ..
  refine ⟨fit.walks, fit.cycles, fit.idle, fun d => ?_⟩
  have old := fit.chan d
  rw [State.reachDisabled_chan]
  split
  · next hd =>
    subst hd
    refine {
      pending := fun h => absurd txn h
      slot := fun i v hv hc => absurd hc ((s.inSlot_eq_false_iff c).mp slot i v hv)
      place := fun q hq hc => absurd (old.place q hq hc) (Channel.not_awaitsWalk_of_none txn _)
      lineRead := fun r hr => by rw [show (s.chan c).lineRead = some r from hr] at lineRead; cases lineRead
      read := old.read
      write := old.write
      off := fun _ => rfl
      quota := (dropped c).trans old.quota
      empty := fun _ => Tc.heldCount_dropWhere_chan .. }
  · exact { old with
      quota := (dropped d).trans old.quota
      empty := fun h => Nat.eq_zero_of_le_zero (old.empty h ▸ dropped d) }

theorem TrafficFits.trySync {s : State} (fit : TrafficFits s) (c : Chan) : TrafficFits (s.trySync c) := by
  by_cases h : SyncEnds s c
  · obtain ⟨⟨x, hx, sync⟩, -⟩ := id h
    rw [State.trySync_of_ends hx h]
    exact fit.answer (fit.unengaged_of_sync hx sync) _
  · rw [State.trySync_of_not_ends h]
    exact fit

/-- R63, R69, R71: the conditions of a channel that has nothing left but line reads of withdrawn work. -/
theorem TrafficFits.settle {s : State} (fit : TrafficFits s) (c : Chan) : TrafficFits (s.settle c) := by
  by_cases h : DrainEnds s c ∨ AbortEnds s c
  · rw [(s.settle_eq c).1 h]
    have old := fit.chan c
    have gone := (s.trySync_tested c).txn_none_iff
    have lineRead : ((s.trySync c).chan c).lineRead = (s.chan c).lineRead := by rw [State.trySync_chan_self]
    have slot : (s.trySync c).inSlot c = s.inSlot c := by simp [State.inSlot]
    have state : ((s.trySync c).chan c).state = (s.chan c).state := by rw [State.trySync_chan_self]
    have ended : ((s.trySync c).chan c).txn = none ∧ s.inSlot c = false ∧
        ∀ r, (s.chan c).lineRead = some r → r.discard = false := by
      rcases h with ⟨draining, txn, -, -, slot⟩ | ⟨aborting, slot, reads, -⟩
      · refine ⟨gone.mpr txn, slot, fun r hr => ?_⟩
        by_contra hd
        have winding := ((old.lineRead r hr).2 (by simpa using hd)).2
        simp [Channel.Winding, draining] at winding
      · refine ⟨gone.mpr (.inl ?_), slot, fun r hr => ?_⟩
        · by_contra pending
          have running := old.pending pending
          simp [Channel.Running, aborting] at running
        · by_contra hd
          have issued := ((old.lineRead r hr).2 (by simpa using hd)).1
          rw [reads r hr] at issued; cases issued
    obtain ⟨txn, free, kept⟩ := ended
    have after := fit.trySync c
    refine after.reachDisabled txn (slot.trans free) ?_
    cases hr : (s.chan c).lineRead with
    | none => exact lineRead.trans hr
    | some r =>
      have waits := ((after.chan c).lineRead r (lineRead.trans hr)).1 (kept r hr)
      exact absurd waits (Channel.not_awaitsRead_of_none txn)
  · rw [(s.settle_eq c).2 h]
    exact fit.trySync c

theorem TrafficFits.foldl_settle {s : State} (fit : TrafficFits s) (l : List Chan) :
    TrafficFits (l.foldl State.settle s) := by
  induction l generalizing s with
  | nil => exact fit
  | cons c l ih => exact ih (fit.settle c)

/-! ## Requests at a port -/

theorem TrafficFits.acceptAccess {s : State} (fit : TrafficFits s) {c : Chan} (txn : (s.chan c).txn = none)
    (active : (s.chan c).state = .active) (r : Request) (access : Access) (addr : ChanAddr) (size : Size) :
    TrafficFits (s.acceptAccess c r access addr size) := by
  have free := fit.unengaged_of_none txn
  unfold State.acceptAccess
  split
  · exact fit.failTransaction free ..
  · split
    · exact fit.failTransaction free ..
    · exact fit.setTxn free rfl rfl rfl rfl fun _ => .inl active

theorem TrafficFits.acceptSync {s : State} (fit : TrafficFits s) {c : Chan} (txn : (s.chan c).txn = none)
    (active : (s.chan c).state = .active) : TrafficFits (s.acceptSync c) := by
  have taken (t : Transaction) : TrafficFits (s.modChan c fun ch => { ch with txn := some t }) :=
    fit.setTxn (fit.unengaged_of_none txn) rfl rfl rfl rfl fun _ => .inl active
  exact ((taken _).quiet (State.flushBuffer_quiet ..)).settle c

theorem TrafficFits.takeRequest {s : State} (fit : TrafficFits s) {c : Chan} (txn : (s.chan c).txn = none)
    (r : Request) : TrafficFits (s.takeRequest c r) := by
  unfold State.takeRequest
  split
  · next accepted =>
    split
    · exact fit.acceptAccess txn accepted.1 ..
    · exact fit.acceptSync txn accepted.1
  · exact fit.answer (fit.unengaged_of_none txn) _

/-- A change of the requests held at a port. -/
theorem State.modChan_held_quiet (s : State) (c : Chan) (f : Channel → List Request) :
    Quiet s (s.modChan c fun ch => { ch with held := f ch }) := .modChan (.of_txn_eq (.inl rfl) rfl rfl rfl Iff.rfl)

theorem TrafficFits.portTake {s : State} (fit : TrafficFits s) (c : Chan) : TrafficFits (s.portTake c) := by
  unfold State.portTake
  split
  · next txn _ =>
    refine (fit.quiet (s.modChan_held_quiet c _)).takeRequest ?_ _
    rw [State.chan_modChan_self]
    exact txn
  · exact fit

theorem TrafficFits.unlessReset {s : State} {f : State → State} (fit : TrafficFits s) (h : TrafficFits (f s)) :
    TrafficFits (s.unlessReset f) := by
  unfold State.unlessReset
  split
  · exact fit
  · exact h

theorem TrafficFits.present {s : State} (fit : TrafficFits s) (c : Chan) (r : Request) : TrafficFits (s.present c r) := by
  have held := fit.quiet (s.modChan_held_quiet c fun ch => ch.held ++ [r])
  exact held.unlessReset (f := fun s => s.portTake c) (held.portTake c)

theorem TrafficFits.idleStep {s : State} (fit : TrafficFits s) : TrafficFits s.idle := by
  refine fit.unlessReset ?_
  split
  · exact fit.portTake _
  · exact fit.quiet s.clockPeriod_quiet

end Sys2Proof.Machine
end

section
/-!
SUPPORT. Address phases and completions keep the traffic laws: a cycle is issued with its requester, and its record is
freed with it (R141, R146).
-/

namespace Sys2Proof.Machine

/-! ## Walk slots (R43, R49) -/

theorem WalkUnit.slots_set (w : WalkUnit) (i j : Fin 2) (x : Option Walk) :
    (w.slots.set i x)[j] = if i = j then x else w.slots[j] := vector_getElem_set_fin w.slots i j x i.isLt

/-- What the slots hold once slot `i` was freed: what they held, and in slot `i` the walk of the first queue place. -/
theorem SlotFreed.slot_cases {s t : State} {i : Fin 2} (h : SlotFreed s t i) {j : Fin 2} {v : Walk}
    (hv : t.walk.slots[j] = some v) :
    (j ≠ i ∧ s.walk.slots[j] = some v) ∨
      (j = i ∧ v.issued = false ∧ v.discard = false ∧
        ∃ q, s.walk.queue = q :: t.walk.queue ∧ v.chan = q.chan ∧ v.page = q.page) := by
  simp only [SlotFreed] at h
  split at h <;> rw [h] at hv ⊢ <;> rw [WalkUnit.slots_set] at hv <;> split at hv
  · cases hv
  · next hj => exact .inl ⟨Ne.symm hj, hv⟩
  · next q rest hq hj =>
    cases hv
    exact .inr ⟨hj.symm, rfl, rfl, q, hq, rfl, rfl⟩
  · next hj => exact .inl ⟨Ne.symm hj, hv⟩

theorem SlotFreed.slot_of_ne {s t : State} {i : Fin 2} (h : SlotFreed s t i) {j : Fin 2} (hj : j ≠ i) :
    t.walk.slots[j] = s.walk.slots[j] := by
  simp only [SlotFreed] at h
  split at h <;> rw [h, WalkUnit.slots_set, if_neg (Ne.symm hj)]

theorem SlotFreed.queue_sublist {s t : State} {i : Fin 2} (h : SlotFreed s t i) :
    t.walk.queue.Sublist s.walk.queue := by
  simp only [SlotFreed] at h
  split at h
  · rw [h]
  · next q rest hq =>
    rw [h, hq]
    exact List.sublist_cons_self ..

/-- R49: the freeing of slot `i`, whose request does not stand any more. -/
theorem WalksFit.freed {s t : State} {i : Fin 2} {stood : List (Fin 2)}
    (fit : WalksFit { s.walk with requests := stood }) (nodup : s.walk.requests.Nodup)
    (requests : ∀ j, j ∈ s.walk.requests ↔ j ∈ stood ∧ j ≠ i) (h : SlotFreed s t i) : WalksFit t.walk where
  discarded j v hv hd := by
    rcases h.slot_cases hv with ⟨-, old⟩ | ⟨-, -, kept, -⟩
    · exact fit.discarded j v old hd
    · rw [kept] at hd; cases hd
  slots j k v v' hv hv' hc := by
    rcases h.slot_cases hv with ⟨-, old⟩ | ⟨hj, -, -, q, hq, chan, -⟩ <;>
      rcases h.slot_cases hv' with ⟨-, old'⟩ | ⟨hk, -, -, q', hq', chan', -⟩
    · exact fit.slots j k v v' old old' hc
    · exact absurd (by simp [hq', hc, chan']) (fit.apart j v old)
    · exact absurd (by simp [hq, ← hc, chan]) (fit.apart k v' old')
    · exact hj.trans hk.symm
  queue := fit.queue.sublist (h.queue_sublist.map _)
  apart j v hv hmem := by
    rcases h.slot_cases hv with ⟨-, old⟩ | ⟨-, -, -, q, hq, chan, -⟩
    · exact fit.apart j v old ((h.queue_sublist.map _).subset hmem)
    · have once : (s.walk.queue.map WalkWait.chan).Nodup := fit.queue
      rw [hq, List.map_cons, List.nodup_cons] at once
      exact once.1 (chan ▸ hmem)
  full hne j hj := by
    by_cases hji : j = i
    · subst hji
      simp only [SlotFreed] at h
      split at h <;> rw [h] at hj hne
      · next empty => exact hne empty
      · rw [WalkUnit.slots_set, if_pos rfl] at hj
        cases hj
    · rw [h.slot_of_ne hji] at hj
      exact fit.full (fun empty => hne (List.sublist_nil.mp (empty ▸ h.queue_sublist))) j hj
  nodup := by
    have out : i ∉ s.walk.requests := fun hi => ((requests i).mp hi).2 rfl
    simp only [SlotFreed] at h
    split at h <;> rw [h]
    · exact nodup
    · exact nodup.append (List.nodup_singleton i) (by simpa using out)
  requested j := by
    have old := fit.requested j
    have stands := requests j
    by_cases hji : j = i
    · subst hji
      simp only [SlotFreed] at h
      split at h <;> rw [h, WalkUnit.slots_set, if_pos rfl]
      · simp [stands]
      · simp
    · rw [h.slot_of_ne hji, ← old]
      simp only [SlotFreed] at h
      split at h <;> rw [h] <;> simp [stands, hji]

/-- The walk unit changes: every walk that is not discarded has a walk or a queue place that it goes on from. -/
theorem ChannelFits.walks {bridge : BridgeState} {w w' : WalkUnit} {cycles : List Cycle} {held : Nat} {c : Chan}
    {ch : Channel} (fit : ChannelFits bridge w cycles held c ch)
    (slot : ∀ (i : Fin 2) v, w'.slots[i] = some v → v.chan = c →
      (∃ (j : Fin 2) (v' : Walk), w.slots[j] = some v' ∧ v'.chan = c ∧ v'.page = v.page ∧ v'.discard = v.discard) ∨
        (v.discard = false ∧ ∃ q ∈ w.queue, q.chan = c ∧ q.page = v.page))
    (queue : ∀ q ∈ w'.queue, q ∈ w.queue) : ChannelFits bridge w' cycles held c ch :=
  { fit with
    slot := fun i v hv hc => by
      rcases slot i v hv hc with ⟨j, v', hv', hc', page, discard⟩ | ⟨kept, q, hq, hc', page⟩
      · rw [← page, ← discard]
        exact fit.slot j v' hv' hc'
      · refine ⟨fun _ => page ▸ fit.place q hq hc', fun hd => ?_⟩
        rw [kept] at hd; cases hd
    place := fun q hq => fit.place q (queue q hq) }

theorem ChannelFits.slotFreed {s t : State} {i : Fin 2} (h : SlotFreed s t i) {bridge : BridgeState}
    {cycles : List Cycle} {held : Nat} {c : Chan} {ch : Channel} (fit : ChannelFits bridge s.walk cycles held c ch) :
    ChannelFits bridge t.walk cycles held c ch := by
  refine fit.walks (fun j v hv hc => ?_) fun q hq => h.queue_sublist.subset hq
  rcases h.slot_cases hv with ⟨-, old⟩ | ⟨-, -, kept, q, hq, chan, page⟩
  · exact .inl ⟨j, v, old, hc, rfl, rfl⟩
  · exact .inr ⟨kept, q, by simp [hq], chan ▸ hc, page.symm⟩

/-- The marks of the walks in the slots change, and queue places may go. -/
theorem WalksFit.remark {w w' : WalkUnit} (fit : WalksFit w)
    (slots : ∀ (j : Fin 2) v', w'.slots[j] = some v' → ∃ v, w.slots[j] = some v ∧ v.chan = v'.chan)
    (busy : ∀ j : Fin 2, w.slots[j] ≠ none → w'.slots[j] ≠ none) (queue : w'.queue.Sublist w.queue)
    (discarded : ∀ (j : Fin 2) v', w'.slots[j] = some v' → v'.discard = true → v'.issued = true)
    (nodup : w'.requests.Nodup)
    (requested : ∀ j : Fin 2, j ∈ w'.requests ↔ ∃ v', w'.slots[j] = some v' ∧ v'.issued = false) : WalksFit w' where
  discarded := discarded
  slots j k v' u' hv' hu' hc := by
    obtain ⟨v, hv, chan⟩ := slots j v' hv'
    obtain ⟨u, hu, chan'⟩ := slots k u' hu'
    exact fit.slots j k v u hv hu (by rw [chan, chan', hc])
  queue := fit.queue.sublist (queue.map _)
  apart j v' hv' hmem := by
    obtain ⟨v, hv, chan⟩ := slots j v' hv'
    exact fit.apart j v hv (chan ▸ (queue.map _).subset hmem)
  full hne j := busy j (fit.full (fun empty => hne (List.sublist_nil.mp (empty ▸ queue))) j)
  nodup := nodup
  requested := requested

/-! ## A lookup that misses (R27, R43) -/

theorem WalkUnit.idleSlot_some {w : WalkUnit} {i : Fin 2} (h : w.idleSlot = some i) : w.slots[i] = none := by
  simpa using List.find?_some h

theorem WalkUnit.idleSlot_none {w : WalkUnit} (h : w.idleSlot = none) (i : Fin 2) : w.slots[i] ≠ none := by
  have busy := List.find?_eq_none.mp h i (List.mem_finRange i)
  simpa using busy

section
variable {s : State} (fit : TrafficFits s) {c : Chan} {p : Page} (waits : (s.chan c).AwaitsWalk p)
  (slot : ∀ (i : Fin 2) v, s.walk.slots[i] = some v → v.chan ≠ c)
include fit waits slot

/-- R43: an idle slot takes the walk of a channel that no slot names; the queue is then empty. -/
theorem TrafficFits.takeSlot {i : Fin 2} (idle : s.walk.slots[i] = none) : TrafficFits (s.takeSlot i c p) := by
  have walks := fit.walks
  have empty : s.walk.queue = [] := by
    by_contra hne
    exact walks.full hne i idle
  have slots (j : Fin 2) : (s.takeSlot i c p).walk.slots[j] =
      if i = j then some { chan := c, page := p, entryAddr := entryAddress (s.chan c).desc.mapOrigin p
                           issued := false, stale := false, discard := false } else s.walk.slots[j] :=
    WalkUnit.slots_set ..
  have queue : (s.takeSlot i c p).walk.queue = s.walk.queue := rfl
  have requests : (s.takeSlot i c p).walk.requests = s.walk.requests ++ [i] := rfl
  have out : i ∉ s.walk.requests := by simp [walks.requested, idle]
  refine ⟨⟨fun j v hv hd => ?_, fun j k v v' hv hv' hc => ?_, queue ▸ walks.queue, fun j v _ => by simp [queue, empty],
      fun hne => absurd (queue.trans empty) hne, ?_, fun j => ?_⟩,
    { fit.cycles with walk := fun j => ?_ }, fit.idle, fun d => ?_⟩
  · rw [slots] at hv
    split at hv
    · cases hv; cases hd
    · exact walks.discarded j v hv hd
  · rw [slots] at hv hv'
    split at hv <;> split at hv'
    · next hj hk => exact hj.symm.trans hk
    · cases hv
      exact absurd hc.symm (slot k v' hv')
    · cases hv'
      exact absurd hc (slot j v hv)
    · exact walks.slots j k v v' hv hv' hc
  · rw [requests]
    exact walks.nodup.append (List.nodup_singleton i) (by simpa using out)
  · rw [requests, slots, List.mem_append, walks.requested j]
    by_cases hj : i = j
    · simp [hj]
    · simp [hj, Ne.symm hj]
  · rw [State.takeSlot_bus, slots, fit.cycles.walk j]
    by_cases hj : i = j
    · subst hj; simp [idle]
    · simp [hj]
  · have old := fit.chan d
    exact { old with
      slot := fun j v hv hd => by
        rw [slots] at hv
        split at hv
        · cases hv
          exact ⟨fun _ => hd ▸ waits, nofun⟩
        · exact old.slot j v hv hd
      place := fun q hq => old.place q (queue ▸ hq) }

/-- R43: with both slots busy the walk of a channel joins the queue. -/
theorem TrafficFits.joinWalkQueue (busy : ∀ i : Fin 2, s.walk.slots[i] ≠ none) (place : ∀ q ∈ s.walk.queue, q.chan ≠ c) :
    TrafficFits { s with walk := { s.walk with queue := s.walk.queue ++ [{ chan := c, page := p }] } } := by
  have walks := fit.walks
  have outside : c ∉ s.walk.queue.map WalkWait.chan := by simpa using place
  refine ⟨⟨walks.discarded, walks.slots, ?_, fun j v hv => ?_, fun _ => busy, walks.nodup, walks.requested⟩,
    { fit.cycles with }, fit.idle, fun d => ?_⟩
  · rw [List.map_append]
    exact walks.queue.append (List.nodup_singleton c) (by simpa using outside)
  · rw [List.map_append, List.mem_append]
    rintro (h | h)
    · exact walks.apart j v hv h
    · exact slot j v hv (List.mem_singleton.mp h)
  · have old := fit.chan d
    exact { old with
      place := fun q hq hd => by
        rcases List.mem_append.mp hq with hq | hq
        · exact old.place q hq hd
        · obtain rfl := List.mem_singleton.mp hq
          subst hd
          exact waits }

theorem TrafficFits.startWalk (place : ∀ q ∈ s.walk.queue, q.chan ≠ c) : TrafficFits (s.startWalk c p) := by
  unfold State.startWalk
  split
  · next idle => exact fit.takeSlot waits slot (WalkUnit.idleSlot_some idle)
  · next busy => exact fit.joinWalkQueue waits slot (WalkUnit.idleSlot_none busy) place

end

/-- R26, R27: the lookup of a channel in WAIT_LOOKUP. -/
theorem TrafficFits.lookup {s : State} (fit : TrafficFits s) {c : Chan} {t : Transaction}
    (ht : (s.chan c).txn = some t) (phase : t.phase = .waitLookup) : TrafficFits (s.lookup c) := by
  have free := fit.unengaged_of_phase ht (by simp [phase]) (by simp [phase])
  have running := (fit.chan c).pending (by simp [ht])
  unfold State.lookup
  split
  · exact fit
  · next access addr size ha =>
    split
    · next i e _ =>
      have touched : Quiet s { s with tc := s.tc.touch i } := { Quiet.refl s with held := fun _ => le_rfl }
      exact ((fit.quiet touched).checkRights (touched.unengaged free) _).settle c
    · have waiting : TrafficFits (s.modChan c fun ch => { ch with txn := ch.txn.map fun t => { t with phase := .waitWalk } }) :=
        fit.setTxn free rfl rfl rfl rfl fun _ => running
      refine waiting.startWalk ?_ (fun i v hv hc => ?_) free.place
      · rw [ht] at ha
        exact ⟨{ t with phase := .waitWalk }, access, addr, size, by simp [ht], rfl, ha, rfl⟩
      · exact running.not_winding _ (((fit.chan c).slot i v hv hc).2 (free.slot i v hv hc))

/-- R22: a channel's claim is its transaction's phase. -/
theorem State.claims_channel_iff (s : State) (c : Chan) :
    s.claims (.channel c) = true ↔ ∃ t, (s.chan c).txn = some t ∧ t.phase = .waitLookup := by
  simp [State.claims, Option.any_eq_true]

theorem TrafficFits.lookupService {s : State} (fit : TrafficFits s) : TrafficFits s.lookupService := by
  unfold State.lookupService
  split
  · next c pick =>
    obtain ⟨claims, -⟩ := (s.portPick_iff _).mp pick
    obtain ⟨t, ht, phase⟩ := (s.claims_channel_iff c).mp claims
    exact (fit.quiet (s.served_quiet _)).lookup ht phase
  · exact fit

/-! ## Address phases (R141) -/

theorem Outstanding.append_singleton_iff (cycles : List Cycle) (k : Cycle) (r : Requester) :
    Outstanding (cycles ++ [k]) r ↔ Outstanding cycles r ∨ k.requester = r := by
  simp [Outstanding, or_and_right, exists_or]

/-- R141: a requester that has no cycle outstanding gets one; it and no other holds one more as issued. -/
theorem CyclesFit.issue {w w' : WalkUnit} {bus : BusMaster} {marks marks' : List Bool} (fit : CyclesFit w bus marks)
    (room : bus.cycles.length < 4) {r : Requester} (new : ¬ Outstanding bus.cycles r)
    (walk : ∀ i : Fin 2, (∃ v, w'.slots[i] = some v ∧ v.issued = true) ↔
      (∃ v, w.slots[i] = some v ∧ v.issued = true) ∨ r = .walk i)
    (kill : marks'.head? = some true ↔ marks.head? = some true ∨ r = .kill) (head : ∀ b ∈ marks'.tail, b = false) :
    CyclesFit w' (bus.issue r) marks' where
  few := by
    simp only [BusMaster.issue, List.length_append, List.length_singleton]
    omega
  ids := by
    simp only [BusMaster.issue, List.map_append]
    refine fit.ids.append (List.nodup_singleton _) fun id hid hnew => ?_
    obtain ⟨k, hk, rfl⟩ := List.mem_map.mp hid
    have below := fit.fresh k hk
    have : k.id = bus.nextId := by simpa using hnew
    omega
  fresh k hk := by
    simp only [BusMaster.issue, List.mem_append, List.mem_singleton] at hk ⊢
    rcases hk with hk | rfl
    · exact Nat.lt_succ_of_lt (fit.fresh k hk)
    · exact Nat.lt_succ_self _
  requesters := by
    simp only [BusMaster.issue, List.map_append]
    refine fit.requesters.append (List.nodup_singleton _) fun q hq hnew => new ?_
    obtain rfl : q = r := by simpa using hnew
    obtain ⟨k, hk, rfl⟩ := List.mem_map.mp hq
    exact ⟨k, hk, rfl⟩
  walk i := by
    simp only [BusMaster.issue, Outstanding.append_singleton_iff]
    rw [walk i, fit.walk i]
  kill := by
    simp only [BusMaster.issue, Outstanding.append_singleton_iff]
    rw [kill, fit.kill]
  head := head

theorem ChannelFits.outstanding {bridge : BridgeState} {w : WalkUnit} {cycles cycles' : List Cycle} {held : Nat}
    {c : Chan} {ch : Channel} (fit : ChannelFits bridge w cycles held c ch)
    (read : Outstanding cycles' (.read c) ↔ Outstanding cycles (.read c))
    (write : Outstanding cycles' (.write c) ↔ Outstanding cycles (.write c)) :
    ChannelFits bridge w cycles' held c ch :=
  { fit with read := read.trans fit.read, write := write.trans fit.write }

/-- R141: the cycle of a requester that is no channel is not a channel's. -/
theorem ChannelFits.issue {bridge : BridgeState} {w : WalkUnit} {bus : BusMaster} {held : Nat} {c : Chan} {ch : Channel}
    (fit : ChannelFits bridge w bus.cycles held c ch) {r : Requester} (read : r ≠ .read c) (write : r ≠ .write c) :
    ChannelFits bridge w (bus.issue r).cycles held c ch := by
  refine fit.outstanding ?_ ?_
  · simp [BusMaster.issue, Outstanding.append_singleton_iff, read]
  · simp [BusMaster.issue, Outstanding.append_singleton_iff, write]

/-- R139, R140: a requester that is chosen has a request standing. -/
theorem State.chooseRequest_stands {s : State} {r : Requester} (h : s.chooseRequest = some r) :
    match r with
    | .kill => s.killStands = true
    | .walk i => i ∈ s.walk.requests
    | .write c => s.writeStands c = true
    | .read c => s.readStands c = true := by
  unfold State.chooseRequest at h
  split at h
  · next stands => cases h; exact stands
  · split at h
    · next hw => cases h; simp [hw]
    · split at h
      · next hf => cases h; exact List.find?_some hf
      · obtain ⟨c, hf, rfl⟩ := Option.map_eq_some_iff.mp h
        exact List.find?_some hf

section
variable {s : State} (fit : TrafficFits s) (room : s.bus.cycles.length < 4)
include fit room

theorem TrafficFits.issue_kill (stands : s.killStands = true) : TrafficFits (s.issue .kill) := by
  simp only [State.killStands, Option.any_eq_true] at stands
  obtain ⟨e, he, unissued⟩ := stands
  obtain ⟨rest, entries⟩ := List.head?_eq_some_iff.mp he
  have marks : s.marks = false :: rest.map InvEntry.issued := by
    simp only [State.marks, entries, List.map_cons]
    simp_all
  have new : ¬ Outstanding s.bus.cycles .kill := by simp [fit.cycles.kill, marks]
  have head := fit.cycles.head
  rw [marks] at head
  simp only [State.issue, entries]
  refine ⟨fit.walks, fit.cycles.issue room new (fun i => by simp) ?_ ?_, fit.idle,
    fun c => (fit.chan c).issue nofun nofun⟩
  · simp [State.marks]
  · simpa [State.marks] using head

theorem TrafficFits.issue_walk {i : Fin 2} (stands : i ∈ s.walk.requests) : TrafficFits (s.issue (.walk i)) := by
  obtain ⟨v, hv, unissued⟩ := (fit.walks.requested i).mp stands
  have slots (j : Fin 2) : (s.issue (.walk i)).walk.slots[j] =
      if i = j then some { v with issued := true } else s.walk.slots[j] := by
    simp only [State.issue, WalkUnit.modSlot]
    rw [WalkUnit.slots_set, hv]
    rfl
  have requests : (s.issue (.walk i)).walk.requests = s.walk.requests.filter fun j => j ≠ i := rfl
  have marked (j : Fin 2) (v' : Walk) (hv' : (s.issue (.walk i)).walk.slots[j] = some v') :
      ∃ u, s.walk.slots[j] = some u ∧ u.chan = v'.chan ∧ u.page = v'.page ∧ u.discard = v'.discard ∧
        (u.issued = true → v'.issued = true) := by
    rw [slots] at hv'
    split at hv'
    · next hj => cases hv'; exact ⟨v, hj ▸ hv, rfl, rfl, rfl, fun _ => rfl⟩
    · exact ⟨v', hv', rfl, rfl, rfl, id⟩
  have new : ¬ Outstanding s.bus.cycles (.walk i) := by simp [fit.cycles.walk, hv, unissued]
  refine ⟨fit.walks.remark (fun j v' hv' => ?_) (fun j hj => ?_) (.refl _) (fun j v' hv' hd => ?_)
    (fit.walks.nodup.filter _) fun j => ?_, fit.cycles.issue room new (fun j => ?_) (by simp; rfl) fit.cycles.head,
    fit.idle, fun c => ?_⟩
  · obtain ⟨u, hu, chan, -⟩ := marked j v' hv'
    exact ⟨u, hu, chan⟩
  · rw [slots]
    split
    · simp
    · exact hj
  · obtain ⟨u, hu, -, -, discard, issued⟩ := marked j v' hv'
    exact issued (fit.walks.discarded j u hu (discard ▸ hd))
  · rw [requests, slots, List.mem_filter, fit.walks.requested j]
    by_cases hj : i = j
    · simp [hj]
    · simp [hj, Ne.symm hj]
  · rw [slots]
    by_cases hj : i = j
    · simp [hj]
    · simp [hj]
  · have kept := (fit.chan c).walks (w' := (s.issue (.walk i)).walk) (fun j v' hv' hc => by
      obtain ⟨u, hu, chan, page, discard, -⟩ := marked j v' hv'
      exact .inl ⟨j, u, hu, chan.trans hc, page, discard⟩) fun q => id
    exact kept.issue (r := .walk i) nofun nofun

theorem TrafficFits.issue_read {c : Chan} (stands : s.readStands c = true) : TrafficFits (s.issue (.read c)) := by
  simp only [State.readStands, Option.any_eq_true, Bool.not_eq_true'] at stands
  obtain ⟨r, hr, unissued⟩ := stands
  have new : ¬ Outstanding s.bus.cycles (.read c) := by simp [(fit.chan c).read, hr, unissued]
  have old := fit.chan c
  refine ⟨fit.walks, fit.cycles.issue room new (by simp [State.issue]) (by simp; rfl) fit.cycles.head, fit.idle, fun d => ?_⟩
  simp only [State.issue, State.chan_modChan]
  split
  · next hd =>
    subst hd
    exact { old with
      lineRead := fun r' hr' => by
        obtain ⟨r'', hr'', rfl⟩ := Option.map_eq_some_iff.mp hr'
        have fits := old.lineRead r'' hr''
        exact ⟨fits.1, fun hd => ⟨rfl, (fits.2 hd).2⟩⟩
      read := iff_of_true ((Outstanding.append_singleton_iff ..).mpr (.inr rfl))
        ⟨_, congrArg (Option.map _) hr, rfl⟩
      write := by
        rw [State.modChan_bus, BusMaster.issue, Outstanding.append_singleton_iff]
        simpa using old.write }
  · next hd => exact (fit.chan d).issue (by simpa using hd) nofun

theorem TrafficFits.issue_write {c : Chan} (stands : s.writeStands c = true) : TrafficFits (s.issue (.write c)) := by
  have pending : (s.chan c).buffer.state = .pending := by
    simp only [State.writeStands, Buffer.requestsWrite, Bool.and_eq_true, beq_iff_eq] at stands
    exact stands.1
  have new : ¬ Outstanding s.bus.cycles (.write c) := by simp [(fit.chan c).write, pending]
  have old := fit.chan c
  refine TrafficFits.quiet (State.observe_quiet _ _) ⟨fit.walks, fit.cycles.issue room new (by simp)
    (by simp; rfl) fit.cycles.head, fit.idle, fun d => ?_⟩
  rw [State.chan_setBuffer]
  split
  · next hd =>
    subst hd
    exact { old with
      read := by
        rw [State.setBuffer_bus, BusMaster.issue, Outstanding.append_singleton_iff]
        simpa using old.read
      write := iff_of_true ((Outstanding.append_singleton_iff ..).mpr (.inr rfl)) rfl }
  · next hd => exact (fit.chan d).issue nofun (by simpa using hd)

omit room in
theorem TrafficFits.busGrant : TrafficFits s.busGrant := by
  unfold State.busGrant
  split
  · next room =>
    split
    · next r chosen =>
      have stands := State.chooseRequest_stands chosen
      cases r with
      | kill => exact fit.issue_kill room stands
      | walk i => exact fit.issue_walk room stands
      | read c => exact fit.issue_read room stands
      | write c => exact fit.issue_write room stands
    · exact fit
  · exact fit

end

end Sys2Proof.Machine
end

section
/-!
SUPPORT. Completions keep the traffic laws (R45 to R49, R89, R96, R131, R146): the record is freed together with what its
requester held as issued, and what follows is on the path of an access.
-/

namespace Sys2Proof.Machine

/-! ## A record freed -/

/-- R146: the freed record was its requester's only one. -/
theorem CyclesFit.outstanding_freed_iff {w : WalkUnit} {bus : BusMaster} {marks : List Bool} (fit : CyclesFit w bus marks)
    {id : Nat} {k : Cycle} (hk : bus.recordOf id = some k) (r : Requester) :
    Outstanding (bus.cycles.filter fun k => k.id ≠ id) r ↔ Outstanding bus.cycles r ∧ k.requester ≠ r := by
  have mem : k ∈ bus.cycles := List.mem_of_find?_eq_some hk
  have named : k.id = id := by simpa using List.find?_some hk
  constructor
  · rintro ⟨q, hq, rfl⟩
    obtain ⟨hq, hid⟩ := List.mem_filter.mp hq
    refine ⟨⟨q, hq, rfl⟩, fun same => ?_⟩
    obtain rfl := List.inj_on_of_nodup_map fit.requesters mem hq same
    simp [named] at hid
  · rintro ⟨⟨q, hq, rfl⟩, other⟩
    refine ⟨q, List.mem_filter.mpr ⟨hq, ?_⟩, rfl⟩
    have : q.id ≠ id := fun same => other (by rw [List.inj_on_of_nodup_map fit.ids mem hq (named.trans same.symm)])
    simpa using this

/-- R146: the record is freed, and its requester holds no cycle as issued any more. -/
theorem CyclesFit.freed {w w' : WalkUnit} {bus : BusMaster} {marks marks' : List Bool} (fit : CyclesFit w bus marks)
    {id : Nat} {k : Cycle} (hk : bus.recordOf id = some k)
    (walk : ∀ i : Fin 2, (∃ v, w'.slots[i] = some v ∧ v.issued = true) ↔
      (∃ v, w.slots[i] = some v ∧ v.issued = true) ∧ k.requester ≠ .walk i)
    (kill : marks'.head? = some true ↔ marks.head? = some true ∧ k.requester ≠ .kill)
    (head : ∀ b ∈ marks'.tail, b = false) :
    CyclesFit w' { bus with cycles := bus.cycles.filter fun k => k.id ≠ id } marks' where
  few := (List.length_filter_le ..).trans fit.few
  ids := fit.ids.sublist (List.filter_sublist.map _)
  fresh q hq := fit.fresh q (List.mem_filter.mp hq).1
  requesters := fit.requesters.sublist (List.filter_sublist.map _)
  walk i := by rw [walk i, ← fit.walk i, fit.outstanding_freed_iff hk]
  kill := by rw [kill, ← fit.kill, fit.outstanding_freed_iff hk]
  head := head

/-- The cycles of a channel that is not the requester of the freed record. -/
theorem TrafficFits.chan_freed {s : State} (fit : TrafficFits s) {id : Nat} {k : Cycle}
    (hk : s.bus.recordOf id = some k) {c : Chan} (read : k.requester ≠ .read c) (write : k.requester ≠ .write c) :
    ChannelFits s.bridge s.walk (s.freeRecord id).bus.cycles (s.tc.heldCount c) c (s.chan c) := by
  refine (fit.chan c).outstanding ?_ ?_
  · exact (fit.cycles.outstanding_freed_iff hk _).trans (and_iff_left read)
  · exact (fit.cycles.outstanding_freed_iff hk _).trans (and_iff_left write)

/-- R138: a requester whose record is found has a cycle outstanding. -/
theorem outstanding_of_recordOf {bus : BusMaster} {id : Nat} {k : Cycle} (hk : bus.recordOf id = some k) :
    Outstanding bus.cycles k.requester := ⟨k, List.mem_of_find?_eq_some hk, rfl⟩

/-! ## Walks (R45 to R49) -/

section
variable {s : State} (fit : TrafficFits s) {id id' : Nat} {i : Fin 2}
  (hk : s.bus.recordOf id = some { id := id', requester := .walk i })
include fit hk

theorem TrafficFits.issued_of_record : ∃ v, s.walk.slots[i] = some v ∧ v.issued = true :=
  (fit.cycles.walk i).mp (outstanding_of_recordOf hk)

theorem TrafficFits.free_walk : TrafficFits ((s.freeRecord id).freeSlot i) := by
  obtain ⟨v, hv, issued⟩ := fit.issued_of_record hk
  have freed := (s.freeRecord id).freeSlot_freed i
  have out : i ∉ s.walk.requests := by simp [fit.walks.requested, hv, issued]
  have rest := (s.freeRecord id).freeSlot_eq i
  generalize (s.freeRecord id).freeSlot i = t at freed rest ⊢
  have bus : t.bus = (s.freeRecord id).bus := by rw [rest]
  have marks : t.marks = s.marks := by rw [rest]; rfl
  refine ⟨fit.walks.freed fit.walks.nodup (fun j => ?_) freed, ?_, by rw [rest]; exact fit.idle, fun c => ?_⟩
  · exact ⟨fun hj => ⟨hj, fun e => out (e ▸ hj)⟩, And.left⟩
  · rw [bus, marks]
    refine fit.cycles.freed hk (fun j => ?_) (by simp) fit.cycles.head
    by_cases hj : j = i
    · subst hj
      refine iff_of_false ?_ (by simp)
      rintro ⟨u, hu, hi⟩
      rcases freed.slot_cases hu with ⟨hne, -⟩ | ⟨-, unissued, -⟩
      · exact hne rfl
      · rw [unissued] at hi; cases hi
    · rw [freed.slot_of_ne hj]
      exact (and_iff_left fun e => hj (Requester.walk.inj e).symm).symm
  · have old := (fit.chan_freed hk (c := c) nofun nofun).slotFreed (s := s.freeRecord id) freed
    rw [rest]
    rw [rest] at old
    exact old

omit hk in
/-- R42: once the slot of a walk that is not discarded is freed, nothing of its channel is on its way. -/
theorem TrafficFits.unengaged_of_freed {w : Walk} (hw : s.walk.slots[i] = some w) (kept : w.discard = false) :
    Unengaged ((s.freeRecord id).freeSlot i) w.chan := by
  have freed := (s.freeRecord id).freeSlot_freed i
  obtain ⟨t, access, addr, size, ht, phase, -⟩ := ((fit.chan w.chan).slot i w hw rfl).1 kept
  have noPlace : ∀ q ∈ s.walk.queue, q.chan ≠ w.chan := fun q hq hc =>
    fit.walks.apart i w hw (List.mem_map.mpr ⟨q, hq, hc⟩)
  refine ⟨fun j v hv hc => ?_, fun q hq => noPlace q (freed.queue_sublist.subset hq), fun r hr => ?_⟩
  · rcases freed.slot_cases hv with ⟨hj, old⟩ | ⟨-, -, -, q, hq, chan, -⟩
    · exact absurd (fit.walks.slots j i v w old hw hc) hj
    · exact absurd (chan.symm.trans hc) (noPlace q (by rw [show s.walk.queue = q :: _ from hq]; simp))
  · rw [State.freeSlot_chan] at hr
    by_contra live
    obtain ⟨t', -, -, -, ht', phase', -⟩ := ((fit.chan w.chan).lineRead r hr).1 (by simpa using live)
    rw [ht] at ht'; cases ht'
    rw [phase] at phase'; cases phase'

/-- R45: a stale walk is read again: the record is freed, and the slot's WALK request stands anew. -/
theorem TrafficFits.reread_walk {w : Walk} (hw : s.walk.slots[i] = some w) (kept : w.discard = false) :
    let walk := s.walk.modSlot i fun x => { x with issued := false, stale := false }
    TrafficFits { s.freeRecord id with walk := { walk with requests := walk.requests ++ [i] } } := by
  intro walk
  obtain ⟨v, hv, issued⟩ := fit.issued_of_record hk
  obtain rfl : v = w := by rw [hv] at hw; exact Option.some.inj hw
  have out : i ∉ s.walk.requests := by simp [fit.walks.requested, hv, issued]
  have slots (j : Fin 2) : walk.slots[j] =
      if i = j then some { v with issued := false, stale := false } else s.walk.slots[j] := by
    simp only [walk, WalkUnit.modSlot]
    rw [WalkUnit.slots_set, hv]
    rfl
  have marked (j : Fin 2) (v' : Walk) (hv' : walk.slots[j] = some v') :
      ∃ u, s.walk.slots[j] = some u ∧ u.chan = v'.chan ∧ u.page = v'.page ∧ u.discard = v'.discard := by
    rw [slots] at hv'
    split at hv'
    · next hj => cases hv'; exact ⟨v, hj ▸ hv, rfl, rfl, rfl⟩
    · exact ⟨v', hv', rfl, rfl, rfl⟩
  refine ⟨fit.walks.remark (fun j v' hv' => ?_) (fun j hj => ?_) (.refl _) (fun j v' hv' hd => ?_)
      (fit.walks.nodup.append (List.nodup_singleton i) (by simpa using out)) fun j => ?_,
    fit.cycles.freed hk (fun j => ?_) (by simp; rfl) fit.cycles.head, fit.idle, fun c => ?_⟩
  · obtain ⟨u, hu, chan, -⟩ := marked j v' hv'
    exact ⟨u, hu, chan⟩
  · change walk.slots[j] ≠ none
    rw [slots]
    split
    · simp
    · exact hj
  · change walk.slots[j] = some v' at hv'
    rw [slots] at hv'
    split at hv'
    · cases hv'
      rw [kept] at hd; cases hd
    · exact fit.walks.discarded j v' hv' hd
  · change j ∈ s.walk.requests ++ [i] ↔ ∃ v', walk.slots[j] = some v' ∧ v'.issued = false
    rw [slots, List.mem_append, fit.walks.requested j]
    by_cases hj : i = j
    · simp [hj]
    · simp [hj, Ne.symm hj]
  · change (∃ v', walk.slots[j] = some v' ∧ v'.issued = true) ↔ _
    rw [slots]
    by_cases hj : i = j
    · simp [hj]
    · simp [hj]
  · refine (fit.chan_freed hk nofun nofun).walks (fun j v' hv' hc => ?_) fun q hq => hq
    obtain ⟨u, hu, chan, page, discard⟩ := marked j v' hv'
    exact .inl ⟨j, u, hu, chan.trans hc, page, discard⟩

end

end Sys2Proof.Machine
end

section
/-!
SUPPORT. What a completion does with its record freed keeps the traffic laws: a walk installed or failed, a line read
answered, a line write acknowledged, a KILL removed, and the end of RESETTING.
-/

namespace Sys2Proof.Machine

/-! ## Walk data returns (R45 to R49) -/

/-- R29, R30: an install for a channel with a transaction pending keeps within the channel's quota. -/
theorem TrafficFits.install {s : State} (fit : TrafficFits s) (form : s.tc.RecencyForm) (legal : LegalDescriptorLaw s)
    {e : TcEntry} (running : (s.chan e.chan).Running) :
    TrafficFits { s with tc := s.tc.install e (s.chan e.chan).desc.quota.toNat } := by
  have on : (s.chan e.chan).state ≠ .disabled := by rcases running with h | h | h <;> simp [h]
  obtain ⟨-, -, positive, -⟩ := (Descriptor.legal_iff _).mp (legal e.chan on)
  refine ⟨fit.walks, fit.cycles, fit.idle, fun d => ?_⟩
  have old := fit.chan d
  by_cases hd : e.chan = d
  · subst hd
    exact { old with
      quota := form.heldCount_install_le positive old.quota
      empty := fun h => absurd h on }
  · have fewer := Tc.heldCount_install_of_ne (t := s.tc) (quota := (s.chan e.chan).desc.quota.toNat) hd
    exact { old with
      quota := fewer.trans old.quota
      empty := fun h => Nat.eq_zero_of_le_zero (old.empty h ▸ fewer) }

theorem TrafficFits.walkReturn {s : State} (fit : TrafficFits s) (form : s.tc.RecencyForm)
    (legal : LegalDescriptorLaw s) {id id' : Nat} {i : Fin 2}
    (hk : s.bus.recordOf id = some { id := id', requester := .walk i }) (result : WalkResult) :
    TrafficFits ((s.freeRecord id).walkReturn i result) := by
  obtain ⟨w, hw, issued⟩ := fit.issued_of_record hk
  have slot : (s.freeRecord id).walk.slots[i] = some w := hw
  have freed := fit.free_walk hk
  cases hd : w.discard with
  | true =>
    simp only [State.walkReturn, slot, issued, hd, reduceCtorEq, if_true, if_false]
    exact freed.settle w.chan
  | false =>
    have free := fit.unengaged_of_freed (id := id) hw hd
    cases hs : w.stale with
    | true =>
      simp only [State.walkReturn, slot, issued, hd, hs, reduceCtorEq, if_true, if_false]
      exact fit.reread_walk hk hw hd
    | false =>
      simp only [State.walkReturn, slot, issued, hd, hs, reduceCtorEq, if_false]
      cases result with
      | busError => exact (freed.failWalk free _).settle w.chan
      | word word =>
        dsimp only
        split
        · exact (freed.failWalk free _).settle w.chan
        · next x _ =>
          obtain ⟨t, access, addr, size, ht, -⟩ := ((fit.chan w.chan).slot i w hw rfl).1 hd
          have running := (fit.chan w.chan).pending (by simp [ht])
          have fit := fit.install (e := { chan := w.chan, page := w.page, xlat := x }) form legal running
          exact ((fit.free_walk hk).checkRights (fit.unengaged_of_freed (id := id) hw hd) x).settle w.chan

/-! ## Line reads return (R95, R96) -/

section
variable {s : State} (fit : TrafficFits s) {id id' : Nat} {c : Chan}
include fit

theorem TrafficFits.free_read (hk : s.bus.recordOf id = some { id := id', requester := .read c }) :
    TrafficFits ((s.freeRecord id).modChan c fun ch => { ch with lineRead := none }) := by
  refine ⟨fit.walks, fit.cycles.freed hk (by simp) (by simp; rfl) fit.cycles.head, fit.idle, fun d => ?_⟩
  rw [State.chan_modChan]
  split
  · next hd =>
    subst hd
    have gone : ¬ Outstanding (s.freeRecord id).bus.cycles (.read c) := fun h =>
      ((fit.cycles.outstanding_freed_iff hk _).mp h).2 rfl
    have old := fit.chan c
    exact { old with
      lineRead := nofun
      read := iff_of_false gone (by simp)
      write := ((fit.cycles.outstanding_freed_iff hk _).trans (and_iff_left (by simp))).trans old.write }
  · next hd => exact fit.chan_freed hk (by simpa using hd) nofun

/-- R93: a READ that waits for its line read is on no walk. -/
theorem TrafficFits.unengaged_of_awaitsRead (awaits : (s.chan c).AwaitsRead) :
    Unengaged ((s.freeRecord id).modChan c fun ch => { ch with lineRead := none }) c := by
  have noWalk (p : Page) : ¬ (s.chan c).AwaitsWalk p := by
    rintro ⟨t, -, -, -, ht, phase, -⟩
    obtain ⟨t', -, -, -, ht', phase', -⟩ := awaits
    rw [ht] at ht'; cases ht'
    rw [phase] at phase'; cases phase'
  refine ⟨fun i v hv hc => ?_, fun q hq hc => noWalk _ ((fit.chan c).place q hq hc), fun r hr => ?_⟩
  · by_contra kept
    exact noWalk _ (((fit.chan c).slot i v hv hc).1 (by simpa using kept))
  · rw [State.chan_modChan_self] at hr
    cases hr

theorem TrafficFits.lineReadReturn (hk : s.bus.recordOf id = some { id := id', requester := .read c })
    (result : LineResult) : TrafficFits ((s.freeRecord id).lineReadReturn c result) := by
  obtain ⟨r, hr, issued⟩ := (fit.chan c).read.mp (outstanding_of_recordOf hk)
  have lineRead : ((s.freeRecord id).chan c).lineRead = some r := hr
  have cleared := fit.free_read hk
  cases hd : r.discard with
  | true =>
    simp only [State.lineReadReturn, lineRead, issued, hd, reduceCtorEq, if_true, if_false]
    exact cleared.settle c
  | false =>
    have free := fit.unengaged_of_awaitsRead (id := id) (((fit.chan c).lineRead r hr).1 hd)
    simp only [State.lineReadReturn, lineRead, issued, hd, reduceCtorEq, if_false]
    cases result with
    | busError =>
      dsimp only
      split
      · exact (cleared.failTransaction free ..).settle c
      · exact cleared.settle c
    | line d =>
      refine TrafficFits.settle ?_ c
      have retained (f : Channel → Option HeldLine) (t : State) : Quiet t (t.modChan c fun ch => { ch with readAhead := f ch }) :=
        .modChan (.of_txn_eq (.inl rfl) rfl rfl rfl Iff.rfl)
      have fit' := cleared.quiet (retained (fun ch => ch.retain r d) _)
      unfold State.answerRead
      split
      · exact fit'.answer ((retained ..).unengaged free) _
      · exact fit'

/-! ## Line writes acknowledged (R89) -/

theorem TrafficFits.free_write (hk : s.bus.recordOf id = some { id := id', requester := .write c }) :
    TrafficFits ((s.freeRecord id).setBuffer c Buffer.cleared) := by
  refine ⟨fit.walks, fit.cycles.freed hk (by simp) (by simp; rfl) fit.cycles.head, fit.idle, fun d => ?_⟩
  rw [State.chan_setBuffer]
  split
  · next hd =>
    subst hd
    have gone : ¬ Outstanding (s.freeRecord id).bus.cycles (.write c) := fun h =>
      ((fit.cycles.outstanding_freed_iff hk _).mp h).2 rfl
    have old := fit.chan c
    exact { old with
      read := ((fit.cycles.outstanding_freed_iff hk _).trans (and_iff_left (by simp))).trans old.read
      write := iff_of_false gone (by simp [Buffer.cleared]) }
  · next hd => exact fit.chan_freed hk nofun (by simpa using hd)

/-- R76, R82: a WRITE or READ that waited for the buffer is placed anew. -/
theorem TrafficFits.restartWaiting (c : Chan) : TrafficFits (s.restartWaiting c) := by
  unfold State.restartWaiting
  split
  · next ht => exact fit.placeWrite (fit.unengaged_of_phase ht nofun nofun) ht ..
  · next ht => exact fit.placeRead (fit.unengaged_of_phase ht nofun nofun) ht rfl _
  · exact fit

end

theorem ChannelAlike.setBuffer {a b : Channel} (h : ChannelAlike a b) (x : Buffer) :
    ChannelAlike { a with buffer := x } { b with buffer := x } := { h with writing := Iff.rfl }

theorem TrafficFits.lineWriteAck {s : State} (fit : TrafficFits s) {id id' : Nat} {c : Chan}
    (hk : s.bus.recordOf id = some { id := id', requester := .write c }) (ack : Ack) :
    TrafficFits ((s.freeRecord id).lineWriteAck c ack) := by
  have resolved {t : State} (h : Quiet (s.freeRecord id) t) :
      TrafficFits ((((t.resolveReservation c).setBuffer c Buffer.cleared).restartWaiting c).settle c) := by
    have quiet := (State.resolveReservation_quiet t c).after h
    have cleared := (fit.free_write hk).quiet (quiet.modChan_congr ((quiet.chan c).setBuffer Buffer.cleared))
    exact (cleared.restartWaiting c).settle c
  have writing : ((s.freeRecord id).chan c).buffer.state = .writing :=
    (fit.chan c).write.mp (outstanding_of_recordOf hk)
  simp only [State.lineWriteAck, writing, if_true]
  cases ack with
  | ok => exact resolved (.refl _)
  | busError => exact resolved (State.writeBusError_quiet ..)

/-! ## KILLs acknowledged (R131) -/

theorem TrafficFits.killAck {s : State} (fit : TrafficFits s) {id id' : Nat}
    (hk : s.bus.recordOf id = some { id := id', requester := .kill }) (ack : Ack) :
    TrafficFits ((s.freeRecord id).killAck ack) := by
  have head : s.marks.head? = some true := fit.cycles.kill.mp (outstanding_of_recordOf hk)
  obtain ⟨e, rest, entries⟩ : ∃ e rest, s.inv.entries = e :: rest := by
    cases h : s.inv.entries with
    | nil => simp [State.marks, h] at head
    | cons e rest => exact ⟨e, rest, rfl⟩
  have issued : e.issued = true := by simpa [State.marks, entries] using head
  have tail := fit.cycles.head
  simp only [State.marks, entries, List.map_cons, List.tail_cons] at tail
  have removed : TrafficFits { s.freeRecord id with inv := { s.inv with entries := rest } } := by
    refine ⟨fit.walks, fit.cycles.freed hk (by simp) ?_ fun b hb => tail b (List.mem_of_mem_tail hb), fit.idle,
      fun c => fit.chan_freed hk nofun nofun⟩
    refine iff_of_false (fun h => ?_) (by simp)
    cases tail true (List.mem_of_mem_head? h)
  have delivered {t : State} (h : Quiet { s.freeRecord id with inv := { s.inv with entries := rest } } t) :
      TrafficFits (e.chans.foldl State.settle t.grantPlace) :=
    TrafficFits.foldl_settle ((removed.quiet h).quiet (State.grantPlace_quiet _)) _
  have listed : (s.freeRecord id).inv.entries = e :: rest := entries
  simp only [State.killAck, listed, issued, if_true]
  cases ack with
  | ok => exact delivered (.refl _)
  | busError => exact delivered (.of_chans_eq rfl rfl)

/-! ## The end of RESETTING (R134, R146) -/

/-- With only KILLs outstanding nothing is left discard-marked. -/
theorem TrafficFits.endResetting {s : State} (fit : TrafficFits s) : TrafficFits s.endResetting := by
  unfold State.endResetting
  split
  · next only =>
    have none {r : Requester} (hr : r ≠ .kill) : ¬ Outstanding s.bus.cycles r := by
      rintro ⟨k, hk, rfl⟩
      exact hr (by simpa using List.all_eq_true.mp only k hk)
    refine ⟨fit.walks, fit.cycles, nofun, fun c => ?_⟩
    have old := fit.chan c
    exact { old with
      slot := fun i v hv hc => ⟨(old.slot i v hv hc).1, fun hd =>
        absurd ((fit.cycles.walk i).mpr ⟨v, hv, fit.walks.discarded i v hv hd⟩) (none nofun)⟩
      lineRead := fun r hr => ⟨(old.lineRead r hr).1, fun hd =>
        absurd (old.read.mpr ⟨r, hr, ((old.lineRead r hr).2 hd).1⟩) (none nofun)⟩
      off := nofun }
  · exact fit

theorem TrafficFits.complete {s : State} (fit : TrafficFits s) (form : s.tc.RecencyForm) (legal : LegalDescriptorLaw s)
    (k : Completion) : TrafficFits (s.complete k) := by
  cases k with
  | walk id result =>
    simp only [State.complete]
    split
    · next hk => exact (fit.walkReturn form legal hk result).endResetting
    · exact fit
  | lineRead id result =>
    simp only [State.complete]
    split
    · next hk => exact (fit.lineReadReturn hk result).endResetting
    · exact fit
  | lineWrite id ack =>
    simp only [State.complete]
    split
    · next hk => exact (fit.lineWriteAck hk ack).endResetting
    · exact fit
  | kill id ack =>
    simp only [State.complete]
    split
    · next hk => exact (fit.killAck hk ack).endResetting
    · exact fit

end Sys2Proof.Machine
end

section
/-!
SUPPORT. CH_ABORT keeps the traffic laws (R54, R70): the channel's walk is withdrawn or discard-marked, and its line
read with it.
-/

namespace Sys2Proof.Machine

/-! ## The walk of an aborted channel (R54) -/

theorem WalkUnit.slotOf_some {w : WalkUnit} {c : Chan} {i : Fin 2} (h : w.slotOf c = some i) :
    ∃ v, w.slots[i] = some v ∧ v.chan = c := by
  have found := List.find?_some h
  split at found
  · next v hv => exact ⟨v, hv, by simpa using found⟩
  · cases found

theorem WalkUnit.slotOf_none {w : WalkUnit} {c : Chan} (h : w.slotOf c = none) (i : Fin 2) (v : Walk)
    (hv : w.slots[i] = some v) : v.chan ≠ c := by
  have missed := List.find?_eq_none.mp h i (List.mem_finRange i)
  simpa [hv] using missed

/-- R70: the channel's places leave the walk wait queue. -/
def WalkUnit.withoutPlaces (w : WalkUnit) (c : Chan) : WalkUnit := { w with queue := w.queue.filter fun q => q.chan ≠ c }

/-- R54: no slot holds the channel's walk, or an issued one is discard-marked, or an unissued one is withdrawn. -/
theorem State.abortWalk_cases (s : State) (c : Chan) :
    ((∀ (i : Fin 2) v, s.walk.slots[i] = some v → v.chan ≠ c) ∧
        s.abortWalk c = { s with walk := s.walk.withoutPlaces c }) ∨
      ∃ (i : Fin 2) (v : Walk), s.walk.slots[i] = some v ∧ v.chan = c ∧
        ((v.issued = true ∧ s.abortWalk c =
            { s with walk := { s.walk.withoutPlaces c with
                slots := s.walk.slots.set i (some { v with discard := true }) } }) ∨
          (v.issued = false ∧ s.abortWalk c =
            ({ s with walk := { s.walk.withoutPlaces c with
                requests := s.walk.requests.filter fun j => j ≠ i } } : State).freeSlot i)) := by
  cases h : s.walk.slotOf c with
  | none =>
    have left : (s.walk.withoutPlaces c).slotOf c = none := h
    refine .inl ⟨WalkUnit.slotOf_none h, ?_⟩
    simp only [State.abortWalk]
    simp only [WalkUnit.withoutPlaces] at left ⊢
    rw [left]
  | some i =>
    have left : (s.walk.withoutPlaces c).slotOf c = some i := h
    obtain ⟨v, hv, hc⟩ := WalkUnit.slotOf_some h
    refine .inr ⟨i, v, hv, hc, ?_⟩
    simp only [State.abortWalk]
    simp only [WalkUnit.withoutPlaces] at left ⊢
    rw [left]
    cases hi : v.issued with
    | true => exact .inl ⟨rfl, by simp [hv, hi, WalkUnit.modSlot]⟩
    | false => exact .inr ⟨rfl, by simp [hv, hi]⟩

/-- What the withdrawal of a channel's walk leaves of the walk unit: nothing new, the same issued slots, and of the
channel only discarded walks. -/
structure WalkWithdrawn (c : Chan) (w w' : WalkUnit) : Prop where
  others : ∀ (i : Fin 2) v, w'.slots[i] = some v → v.chan ≠ c →
    w.slots[i] = some v ∨ (v.discard = false ∧ ∃ q ∈ w.queue, q.chan = v.chan ∧ q.page = v.page)
  own : ∀ (i : Fin 2) v, w'.slots[i] = some v → v.chan = c → v.discard = true
  issued : ∀ i : Fin 2, (∃ v, w'.slots[i] = some v ∧ v.issued = true) ↔ ∃ v, w.slots[i] = some v ∧ v.issued = true
  queue : ∀ q ∈ w'.queue, q ∈ w.queue ∧ q.chan ≠ c

theorem WalkUnit.mem_withoutPlaces {w : WalkUnit} {c : Chan} {q : WalkWait} :
    q ∈ (w.withoutPlaces c).queue ↔ q ∈ w.queue ∧ q.chan ≠ c := by
  simp [WalkUnit.withoutPlaces]

theorem WalksFit.withoutPlaces {w : WalkUnit} (fit : WalksFit w) (c : Chan) : WalksFit (w.withoutPlaces c) :=
  fit.remark (fun _ v hv => ⟨v, hv, rfl⟩) (fun _ => id) List.filter_sublist fit.discarded fit.nodup fit.requested

theorem WalksFit.abortWalk {s : State} (fit : WalksFit s.walk) (c : Chan) : WalksFit (s.abortWalk c).walk := by
  have left := fit.withoutPlaces c
  obtain ⟨-, eq⟩ | ⟨i, v, hv, hc, ⟨issued, eq⟩ | ⟨unissued, eq⟩⟩ := s.abortWalk_cases c
  · rw [eq]; exact left
  · have slots (j : Fin 2) : (s.abortWalk c).walk.slots[j] =
        if i = j then some { v with discard := true } else s.walk.slots[j] := by
      rw [eq]; exact WalkUnit.slots_set ..
    refine left.remark (fun j v' hv' => ?_) (fun j hj => ?_) (by rw [eq]) (fun j v' hv' hd => ?_) (by rw [eq]; exact fit.nodup)
      fun j => ?_
    · rw [slots] at hv'
      split at hv'
      · next hj => cases hv'; exact ⟨v, hj ▸ hv, rfl⟩
      · exact ⟨v', hv', rfl⟩
    · rw [slots]
      split
      · simp
      · exact hj
    · rw [slots] at hv'
      split at hv'
      · cases hv'; exact issued
      · exact fit.discarded j v' hv' hd
    · have requests : (s.abortWalk c).walk.requests = s.walk.requests := by rw [eq]; rfl
      rw [requests, fit.requested j, slots]
      by_cases hj : i = j
      · subst hj; simp [hv, issued]
      · simp [hj]
  · refine WalksFit.freed (stood := s.walk.requests) left (fit.nodup.filter _) (fun j => ?_) (eq ▸ State.freeSlot_freed ..)
    simp

theorem WalksFit.abortWalk_withdrawn {s : State} (fit : WalksFit s.walk) (c : Chan) :
    WalkWithdrawn c s.walk (s.abortWalk c).walk := by
  obtain ⟨absent, eq⟩ | ⟨i, v, hv, hc, ⟨issued, eq⟩ | ⟨unissued, eq⟩⟩ := s.abortWalk_cases c
  · rw [eq]
    exact ⟨fun _ _ hv _ => .inl hv, fun i v hv hc => absurd hc (absent i v hv), fun _ => Iff.rfl, fun _ =>
      WalkUnit.mem_withoutPlaces.mp⟩
  · have slots (j : Fin 2) : (s.abortWalk c).walk.slots[j] =
        if i = j then some { v with discard := true } else s.walk.slots[j] := by
      rw [eq]; exact WalkUnit.slots_set ..
    refine ⟨fun j v' hv' hne => ?_, fun j v' hv' hc' => ?_, fun j => ?_, fun q hq => ?_⟩
    · rw [slots] at hv'
      split at hv'
      · cases hv'; exact absurd hc hne
      · exact .inl hv'
    · rw [slots] at hv'
      split at hv'
      · cases hv'; rfl
      · next hj => exact absurd (fit.slots i j v v' hv hv' (hc.trans hc'.symm)) hj
    · rw [slots]
      by_cases hj : i = j
      · subst hj; simp [hv, issued]
      · simp [hj]
    · rw [eq] at hq
      exact WalkUnit.mem_withoutPlaces.mp hq
  · have freed := State.freeSlot_freed
      { s with walk := { s.walk.withoutPlaces c with requests := s.walk.requests.filter fun j => j ≠ i } } i
    rw [← eq] at freed
    have place {q : WalkWait} : q ∈ (s.walk.withoutPlaces c).queue → q ∈ s.walk.queue ∧ q.chan ≠ c :=
      WalkUnit.mem_withoutPlaces.mp
    refine ⟨fun j v' hv' hne => ?_, fun j v' hv' hc' => ?_, fun j => ?_, fun q hq => place (freed.queue_sublist.subset hq)⟩
    · rcases freed.slot_cases hv' with ⟨-, old⟩ | ⟨-, -, kept, q, hq, chan, page⟩
      · exact .inl old
      · exact .inr ⟨kept, q, (place (show q ∈ (s.walk.withoutPlaces c).queue by
          rw [show (s.walk.withoutPlaces c).queue = q :: _ from hq]; simp)).1, chan.symm, page.symm⟩
    · rcases freed.slot_cases hv' with ⟨hj, old⟩ | ⟨-, -, -, q, hq, chan, -⟩
      · exact absurd (fit.slots j i v' v old hv (hc'.trans hc.symm)) hj
      · exact absurd (chan.symm.trans hc') (place (show q ∈ (s.walk.withoutPlaces c).queue by
          rw [show (s.walk.withoutPlaces c).queue = q :: _ from hq]; simp)).2
    · by_cases hj : j = i
      · subst hj
        refine iff_of_false ?_ (by simp [hv, unissued])
        rintro ⟨u, hu, hi⟩
        rcases freed.slot_cases hu with ⟨hne, -⟩ | ⟨-, idle, -⟩
        · exact hne rfl
        · rw [idle] at hi; cases hi
      · rw [freed.slot_of_ne hj]
        exact Iff.rfl

/-- A channel with no walk in a slot or queued keeps the walk unit as it is. -/
theorem State.abortWalk_of_absent {s : State} {c : Chan}
    (slot : ∀ (i : Fin 2) v, s.walk.slots[i] = some v → v.chan ≠ c) (place : ∀ q ∈ s.walk.queue, q.chan ≠ c) :
    s.abortWalk c = s := by
  obtain ⟨-, eq⟩ | ⟨i, v, hv, hc, -⟩ := s.abortWalk_cases c
  · have same : s.walk.withoutPlaces c = s.walk := by
      unfold WalkUnit.withoutPlaces
      rw [List.filter_eq_self.mpr fun q hq => by simpa using place q hq]
    rw [eq, same]
  · exact absurd hc (slot i v hv)

/-! ## CH_ABORT (R70, R71) -/

section
variable {s : State} (fit : TrafficFits s) {c : Chan} (running : (s.chan c).Running)
include fit running

/-- R70: the channel goes to ABORTING with its transaction, walk and line read withdrawn. -/
theorem TrafficFits.abort {x : Channel} (state : x.state = .aborting) (desc : x.desc = (s.chan c).desc)
    (txn : x.txn = none) (buffer : x.buffer = (s.chan c).buffer)
    (lineRead : x.lineRead = (s.chan c).lineRead.bind LineRead.aborted) : TrafficFits ((s.abortWalk c).setChan c x) := by
  have withdrawn := fit.walks.abortWalk_withdrawn c
  have marks : (s.abortWalk c).marks = s.marks := by simp [State.marks]
  have on : s.bridge ≠ .resetting := fun h => by
    have off := (fit.chan c).off h
    rcases running with r | r | r <;> rw [off] at r <;> cases r
  refine ⟨fit.walks.abortWalk c, ?_, by simpa using fit.idle, fun d => ?_⟩
  · have cycles := fit.cycles
    simpa [State.marks] using { cycles with walk := fun i => (cycles.walk i).trans (withdrawn.issued i).symm }
  simp only [State.setChan_bridge, State.setChan_walk, State.setChan_bus, State.setChan_tc, State.abortWalk_frame,
    State.chan_setChan, State.abortWalk_chan]
  split
  · next hd =>
    subst hd
    have old := fit.chan c
    have aborted (r : LineRead) (hr : x.lineRead = some r) :
        r.discard = true ∧ r.issued = true ∧ ∃ r', (s.chan c).lineRead = some r' ∧ r'.issued = true := by
      rw [lineRead] at hr
      obtain ⟨r', hr', ha⟩ := Option.bind_eq_some_iff.mp hr
      unfold LineRead.aborted at ha
      split at ha
      · next issued => cases ha; exact ⟨rfl, issued, r', hr', issued⟩
      · cases ha
    exact {
      pending := fun h => absurd txn h
      slot := fun i v hv hc => by
        have gone := withdrawn.own i v hv hc
        exact ⟨fun kept => absurd kept (by simp [gone]), fun _ => .inl state⟩
      place := fun q hq hc => absurd hc (withdrawn.queue q hq).2
      lineRead := fun r hr => by
        obtain ⟨discard, issued, -⟩ := aborted r hr
        exact ⟨fun kept => absurd kept (by simp [discard]), fun _ => ⟨issued, .inl state⟩⟩
      read := by
        rw [old.read]
        constructor
        · rintro ⟨r, hr, issued⟩
          exact ⟨{ r with discard := true }, by simp [lineRead, hr, LineRead.aborted, issued], issued⟩
        · rintro ⟨r, hr, -⟩
          exact (aborted r hr).2.2
      write := by rw [buffer]; exact old.write
      off := fun h => absurd h on
      quota := by rw [desc]; exact old.quota
      empty := fun h => by rw [state] at h; cases h }
  · next hd =>
    refine (fit.chan d).walks (fun i v hv hc => ?_) fun q hq => (withdrawn.queue q hq).1
    rcases withdrawn.others i v hv (fun e => hd (e.symm.trans hc)) with old | ⟨kept, q, hq, chan, page⟩
    · exact .inl ⟨i, v, old, hc, rfl, rfl⟩
    · exact .inr ⟨kept, q, hq, chan.trans hc, page⟩

omit running in
/-- A channel whose transaction is not on a walk has no walk at all, while it runs. -/
theorem TrafficFits.abortWalk_self (running : (s.chan c).Running) (walk : ∀ p, ¬ (s.chan c).AwaitsWalk p) :
    s.abortWalk c = s := by
  refine State.abortWalk_of_absent (fun i v hv hc => ?_) fun q hq hc => walk _ ((fit.chan c).place q hq hc)
  have old := (fit.chan c).slot i v hv hc
  cases hd : v.discard with
  | false => exact walk _ (old.1 hd)
  | true => exact running.not_winding _ (old.2 hd)

theorem TrafficFits.stopTransaction {f : Channel → Channel} (state : ∀ ch, (f ch).state = .aborting)
    (desc : ∀ ch, (f ch).desc = ch.desc) (txn : ∀ ch, (f ch).txn = ch.txn) (buffer : ∀ ch, (f ch).buffer = ch.buffer)
    (lineRead : ∀ ch, (f ch).lineRead = ch.lineRead.bind LineRead.aborted) :
    TrafficFits ((s.stopTransaction c).modChan c f) := by
  have stopped (a : Answer) : TrafficFits (((s.abortWalk c).answer c a).modChan c f) := by
    rw [State.modChan, State.answer, State.modChan, State.setChan_setChan]
    refine fit.abort running (state _) ?_ ?_ ?_ ?_
    all_goals simp [desc, txn, buffer, lineRead, State.abortWalk_chan]
  unfold State.stopTransaction
  split
  · next none =>
    have alone := fit.abort running (state _) (desc (s.chan c)) ((txn _).trans none) (buffer _) (lineRead _)
    rw [fit.abortWalk_self running (Channel.not_awaitsWalk_of_none none)] at alone
    exact alone
  · next t ht =>
    cases phase : t.phase with
    | waitWalk => exact stopped _
    | waitLookup | waitBuffer | waitRead | waitSync =>
      have same := fit.abortWalk_self running fun p ⟨t', _, _, _, ht', phase', _⟩ => by
        rw [ht] at ht'; cases ht'
        rw [phase] at phase'; cases phase'
      have fit' := stopped .stopped
      rw [same] at fit'
      exact fit'

end

theorem ChannelAlike.aborted {a b : Channel} (h : ChannelAlike a b) :
    ChannelAlike { a with state := .aborting, readAhead := none, lineRead := a.lineRead.bind LineRead.aborted }
      { b with state := .aborting, readAhead := none, lineRead := b.lineRead.bind LineRead.aborted } where
  state := .inl rfl
  desc := h.desc
  pending := h.pending
  awaitsWalk := h.awaitsWalk
  awaitsRead := h.awaitsRead
  lineRead := by
    have same := h.lineRead
    cases ha : a.lineRead with
    | none => simp_all
    | some r =>
      obtain ⟨r', hr', issued, -⟩ := h.symm_lineRead_some ha
      rw [ha, hr'] at same
      have lines : r'.unmarked = r.unmarked := Option.some.inj same
      simp only [LineRead.unmarked, LineRead.mk.injEq] at lines
      simp only [hr', Option.bind_some, LineRead.aborted, issued]
      split <;> simp_all [LineRead.unmarked]
  writing := h.writing

theorem TrafficFits.abortChannel {s : State} (fit : TrafficFits s) (c : Chan) : TrafficFits (s.abortChannel c).1 := by
  have aborted (running : (s.chan c).Running) :
      TrafficFits ((((s.stopTransaction c).discardBuffer c).modChan c fun ch =>
        { ch with state := .aborting, readAhead := none, lineRead := ch.lineRead.bind LineRead.aborted }).settle c) := by
    have discarded := State.discardBuffer_quiet (s.stopTransaction c) c
    have stopped := fit.stopTransaction running
      (f := fun ch => { ch with state := .aborting, readAhead := none, lineRead := ch.lineRead.bind LineRead.aborted })
      (fun _ => rfl) (fun _ => rfl) (fun _ => rfl) (fun _ => rfl) fun _ => rfl
    exact (stopped.quiet (discarded.modChan_congr (discarded.chan c).aborted)).settle c
  cases h : (s.chan c).state <;> simp only [State.abortChannel, h]
  case disabled | aborting => exact fit
  case active => exact aborted (.inl h)
  case faulted => exact aborted (.inr (.inl h))
  case draining => exact aborted (.inr (.inr h))

end Sys2Proof.Machine
end

section
/-!
SUPPORT. Channel commands, resets and registers keep the traffic laws, and so does every command; and O58, which follows
with the laws of descriptors and of the cache that the earlier proofs give.
-/

namespace Sys2Proof.Machine

theorem TrafficFits.congr {s t : State} (fit : TrafficFits s) (chans : t.chans = s.chans) (rest : t.traffic = s.traffic) :
    TrafficFits t := fit.quiet (.of_chans_eq chans rest)

/-! ## Channel commands (R66 to R69) -/

/-- R65: a channel with no work being wound up goes to a state in which it may have a transaction. -/
theorem TrafficFits.turnRunning {s : State} (fit : TrafficFits s) {c : Chan} (bridge : s.bridge = .running)
    (calm : (s.chan c).state ≠ .aborting) {x : Channel} (running : x.Running) (desc : x.desc = (s.chan c).desc)
    (txn : x.txn = (s.chan c).txn) (buffer : x.buffer = (s.chan c).buffer) (lineRead : x.lineRead = (s.chan c).lineRead) :
    TrafficFits (s.setChan c x) := by
  have old := fit.chan c
  have settled : ¬ (s.chan c).Winding s.bridge := by simp [Channel.Winding, calm, bridge]
  refine fit.setChan {
    pending := fun _ => running
    slot := fun i v hv hc => ⟨fun kept => ?_, fun hd => absurd ((old.slot i v hv hc).2 hd) settled⟩
    place := fun q hq hc => ?_
    lineRead := fun r hr => ?_
    read := by rw [lineRead]; exact old.read
    write := by rw [buffer]; exact old.write
    off := fun h => by rw [bridge] at h; cases h
    quota := by rw [desc]; exact old.quota
    empty := fun h => by rcases running with r | r | r <;> rw [h] at r <;> cases r }
  · simpa only [Channel.AwaitsWalk, txn] using (old.slot i v hv hc).1 kept
  · simpa only [Channel.AwaitsWalk, txn] using old.place q hq hc
  · rw [lineRead] at hr
    refine ⟨fun kept => ?_, fun hd => absurd ((old.lineRead r hr).2 hd).2 settled⟩
    simpa only [Channel.AwaitsRead, txn] using (old.lineRead r hr).1 kept

section
variable {s : State} (fit : TrafficFits s) (bridge : s.bridge = .running) (c : Chan)
include fit bridge

theorem TrafficFits.enableChannel : TrafficFits (s.enableChannel c).1 := by
  unfold State.enableChannel
  repeat' split
  · next off _ => exact fit.turnRunning bridge (by simp [off]) (.inl rfl) rfl rfl rfl rfl
  · exact fit
  · exact fit

theorem TrafficFits.resumeChannel : TrafficFits (s.resumeChannel c).1 := by
  unfold State.resumeChannel
  split
  · next faulted => exact fit.turnRunning bridge (by simp [faulted]) (.inl rfl) rfl rfl rfl rfl
  · exact fit

theorem TrafficFits.disableChannel : TrafficFits (s.disableChannel c).1 := by
  unfold State.disableChannel
  split
  · next on =>
    have flushed := fit.quiet (s.flushBuffer_quiet c)
    have calm : ((s.flushBuffer c).chan c).state ≠ .aborting := by
      rw [State.flushBuffer_chan_self]
      rcases on with h | h <;> simp [h]
    have draining {t : State} (fit : TrafficFits t) (bridge : t.bridge = .running) (calm : (t.chan c).state ≠ .aborting) :
        TrafficFits (t.modChan c fun ch => { ch with state := .draining, readAhead := none }) :=
      fit.turnRunning bridge calm (.inr (.inr rfl)) rfl rfl rfl rfl
    have running : (s.flushBuffer c).bridge = .running := by simpa using bridge
    dsimp only
    exact (draining flushed running calm).settle c
  · exact fit

theorem TrafficFits.claimPort (n : CommandName) (channel : BitVec 4) (page : BitVec 14) :
    TrafficFits (s.claimPort n channel page) :=
  { fit with idle := fun h => by rw [show s.bridge = .resetting from h] at bridge; cases bridge }

theorem TrafficFits.dispatchCommand (n : CommandName) (channel : BitVec 4) (page : BitVec 14) :
    TrafficFits (s.dispatchCommand n channel page) := by
  have completed {t : State} {o : CmdOutcome} (h : TrafficFits t) : TrafficFits (t.completeCommand n channel page o) :=
    h.quiet (State.completeCommand_quiet ..)
  cases n with
  | chEnable => exact completed (fit.enableChannel bridge _)
  | chDisable => exact completed (fit.disableChannel bridge _)
  | chResume => exact completed (fit.resumeChannel bridge _)
  | chAbort => exact completed (fit.abortChannel _)
  | tagsClear => exact completed (fit.quiet s.clearTags_quiet)
  | xlatFlushPage | xlatFlushChannel | xlatFlushAll | xlatProbe => exact fit.claimPort bridge ..

end

theorem TrafficFits.command {s : State} (fit : TrafficFits s) (n : CommandName) (channel : BitVec 4)
    (page : BitVec 14) : TrafficFits (s.command n channel page) := by
  unfold State.command
  split
  · exact fit.congr rfl rfl
  · split
    · exact fit.quiet (State.completeCommand_quiet ..)
    · next on =>
      have bridge : s.bridge = .running := by cases h : s.bridge <;> simp_all
      split
      · exact fit.dispatchCommand bridge ..
      · exact fit.quiet (State.completeCommand_quiet ..)

/-! ## Resets (R134, R174, R180) -/

theorem Tc.heldCount_of_free {t : Tc} (h : ∀ i : Fin 16, t.entries[i] = none) (c : Chan) : t.heldCount c = 0 :=
  (Tc.heldCount_eq_zero_iff t c).mpr fun i e he => by rw [h i] at he; cases he

/-- R172: the command unit is IDLE once its command is stopped. -/
theorem State.stopCommand_quiet (s : State) : Quiet s s.stopCommand := by
  unfold State.stopCommand
  split
  · split
    · exact State.completeCommand_quiet ..
    · exact { Quiet.refl s with busy := nofun }
  · exact .refl s

theorem State.stopCommand_busy (s : State) : s.stopCommand.cmd.busy = false := by
  unfold State.stopCommand
  split
  · split <;> rfl
  · next idle => simpa using idle

/-- R54: a soft reset keeps the issued walks, discard-marked. -/
theorem WalkUnit.softReset_slot {w : WalkUnit} {i : Fin 2} {v : Walk} :
    w.softReset.slots[i] = some v ↔ ∃ v', w.slots[i] = some v' ∧ v'.issued = true ∧ v = { v' with discard := true } := by
  simp only [WalkUnit.softReset, Fin.getElem_fin, Vector.getElem_map, Option.map_eq_some_iff, Option.filter_eq_some_iff]
  constructor
  · rintro ⟨v', ⟨hv, issued⟩, rfl⟩; exact ⟨v', hv, issued, rfl⟩
  · rintro ⟨v', hv, issued, rfl⟩; exact ⟨v', ⟨hv, issued⟩, rfl⟩

/-- R99: an abort keeps an issued line read, discard-marked. -/
theorem LineRead.aborted_iff {r r' : LineRead} :
    r.aborted = some r' ↔ r.issued = true ∧ r' = { r with discard := true } := by
  unfold LineRead.aborted
  split
  · next issued => simp [issued, eq_comm]
  · next unissued => simp [unissued]

/-- R174: a channel that a soft reset leaves DISABLED, with what it has outstanding discard-marked. -/
theorem ChannelFits.softReset {bridge : BridgeState} {w : WalkUnit} {cycles : List Cycle} {held : Nat} {c : Chan}
    {ch : Channel} (old : ChannelFits bridge w cycles held c ch) :
    ChannelFits .resetting w.softReset cycles 0 c ch.softReset where
  pending h := absurd rfl h
  slot i v hv hc := by
    obtain ⟨v', -, -, rfl⟩ := WalkUnit.softReset_slot.mp hv
    exact ⟨nofun, fun _ => .inr ⟨rfl, rfl⟩⟩
  place := nofun
  lineRead r hr := by
    obtain ⟨r', -, ha⟩ := Option.bind_eq_some_iff.mp hr
    obtain ⟨issued, rfl⟩ := LineRead.aborted_iff.mp ha
    exact ⟨nofun, fun _ => ⟨issued, .inr ⟨rfl, rfl⟩⟩⟩
  read := by
    rw [old.read]
    constructor
    · rintro ⟨r, hr, issued⟩
      exact ⟨_, Option.bind_eq_some_iff.mpr ⟨r, hr, LineRead.aborted_iff.mpr ⟨issued, rfl⟩⟩, issued⟩
    · rintro ⟨r, hr, -⟩
      obtain ⟨r', hr', ha⟩ := Option.bind_eq_some_iff.mp hr
      exact ⟨r', hr', (LineRead.aborted_iff.mp ha).1⟩
  write := by
    rw [old.write, Channel.softReset]
    dsimp only
    split
    · exact Iff.rfl
    · next idle => simp [idle, Buffer.cleared]
  off _ := rfl
  quota := Nat.zero_le _
  empty _ := rfl

theorem WalksFit.softReset {w : WalkUnit} (fit : WalksFit w) : WalksFit w.softReset where
  discarded i v hv _ := by
    obtain ⟨v', -, issued, rfl⟩ := WalkUnit.softReset_slot.mp hv
    exact issued
  slots i j v v' hv hv' hc := by
    obtain ⟨u, hu, -, rfl⟩ := WalkUnit.softReset_slot.mp hv
    obtain ⟨u', hu', -, rfl⟩ := WalkUnit.softReset_slot.mp hv'
    exact fit.slots i j u u' hu hu' hc
  queue := .nil
  apart _ _ _ := List.not_mem_nil
  full h := absurd rfl h
  nodup := .nil
  requested i := by
    refine iff_of_false List.not_mem_nil ?_
    rintro ⟨v, hv, unissued⟩
    obtain ⟨v', -, issued, rfl⟩ := WalkUnit.softReset_slot.mp hv
    rw [show v'.issued = false from unissued] at issued; cases issued

theorem WalkUnit.softReset_issued_iff (w : WalkUnit) (i : Fin 2) :
    (∃ v, w.softReset.slots[i] = some v ∧ v.issued = true) ↔ ∃ v, w.slots[i] = some v ∧ v.issued = true := by
  simp only [WalkUnit.softReset_slot]
  constructor
  · rintro ⟨_, ⟨v, hv, hi, rfl⟩, -⟩; exact ⟨v, hv, hi⟩
  · rintro ⟨v, hv, hi⟩; exact ⟨_, ⟨v, hv, hi, rfl⟩, hi⟩

theorem TrafficFits.softReset {s : State} (fit : TrafficFits s) : TrafficFits s.softReset := by
  unfold State.softReset
  split
  · exact fit
  · have idle := s.stopCommand_busy
    replace fit := fit.quiet s.stopCommand_quiet
    generalize s.stopCommand = s at fit idle ⊢
    have cycles := fit.cycles
    refine TrafficFits.endResetting ⟨fit.walks.softReset,
      { cycles with walk := fun i => (cycles.walk i).trans (s.walk.softReset_issued_iff i).symm }, fun _ => idle,
      fun c => ?_⟩
    have none : Tc.heldCount { s.tc.dropAll with lastServed := .commandUnit } c = 0 :=
      Tc.heldCount_of_free (fun i => by simp [Tc.dropAll]) c
    have chan (t : State) (h : t.chans = s.chans.map Channel.softReset) : t.chan c = (s.chan c).softReset := by
      simp [State.chan, h]
    rw [chan _ rfl]
    exact none ▸ (fit.chan c).softReset

/-- R40, R79, R93: what a channel that is reset has on its way. -/
structure Channel.Off (ch : Channel) : Prop where
  state : ch.state = .disabled
  txn : ch.txn = none
  buffer : ch.buffer = Buffer.cleared
  lineRead : ch.lineRead = none

/-- The laws at power-on: nothing is on its way. -/
theorem TrafficFits.of_powerOn {s : State} (bridge : s.bridge = .running) (walk : s.walk = WalkUnit.powerOn)
    (bus : s.bus.cycles = []) (marks : s.marks = []) (tc : s.tc = Tc.powerOn) (off : ∀ c, (s.chan c).Off) :
    TrafficFits s := by
  have slots (i : Fin 2) : WalkUnit.powerOn.slots[i] = none := by simp [WalkUnit.powerOn]
  have held (c : Chan) : Tc.powerOn.heldCount c = 0 := Tc.heldCount_of_free (fun i => by simp [Tc.powerOn]) c
  have silent (r : Requester) : ¬ Outstanding [] r := by rintro ⟨k, hk, -⟩; cases hk
  refine ⟨?_, ?_, fun h => absurd h (by simp [bridge]), fun c => ?_⟩
  · rw [walk]
    refine ⟨fun i v hv => ?_, fun i _ v _ hv => ?_, .nil, fun i v hv => ?_, fun h => absurd rfl h, .nil, fun i =>
      iff_of_false List.not_mem_nil ?_⟩
    · rw [slots] at hv; cases hv
    · rw [slots] at hv; cases hv
    · rw [slots] at hv; cases hv
    · rintro ⟨v, hv, -⟩
      rw [slots] at hv; cases hv
  · rw [walk, marks]
    exact {
      few := by simp [bus]
      ids := by simp [bus]
      fresh := by simp [bus]
      requesters := by simp [bus]
      walk := fun i => by rw [bus, slots]; exact iff_of_false (silent _) (by simp)
      kill := by rw [bus]; exact iff_of_false (silent _) (by simp)
      head := nofun }
  · obtain ⟨state, txn, buffer, lineRead⟩ := off c
    rw [walk, bus, tc, held]
    exact {
      pending := fun h => absurd txn h
      slot := fun i v hv => by rw [slots] at hv; cases hv
      place := nofun
      lineRead := fun r hr => by rw [lineRead] at hr; cases hr
      read := iff_of_false (silent _) (by simp [lineRead])
      write := iff_of_false (silent _) (by simp [buffer, Buffer.cleared])
      off := fun _ => state
      quota := Nat.zero_le _
      empty := fun _ => rfl }

/-- R135, R180: what the assertion makes of a channel. -/
theorem State.assertReset_chan (s : State) (c : Chan) : s.assertReset.chan c = (s.chan c).powerOff :=
  State.chan_with_chans_map ..

theorem TrafficFits.assertReset (s : State) : TrafficFits s.assertReset :=
  .of_powerOn rfl rfl rfl rfl rfl fun c => by rw [State.assertReset_chan]; exact ⟨rfl, rfl, rfl, rfl⟩

/-! ## Registers -/

theorem TrafficFits.writeDescriptor {s : State} (fit : TrafficFits s) (c : Chan) (reg : DescReg) (value : Word) :
    TrafficFits (s.writeDescriptor c reg value) := by
  unfold State.writeDescriptor
  split
  · next off =>
    have old := fit.chan c
    exact fit.setChan { old with quota := old.empty off ▸ Nat.zero_le _ }
  · exact fit.congr rfl rfl

theorem TrafficFits.writeReg {s : State} (fit : TrafficFits s) (r : Reg) (value : Word) :
    TrafficFits (s.writeReg r value) := by
  cases r with
  | ident | commandStatus | probeResult | shadowStatus | invalidateStatus | busStatus | faultHead0 | faultHead1
  | faultLogStatus | channelStatus => exact fit
  | timebase | globalStatus | intCause | intMask | channelOffSet | faultPop => exact fit.congr rfl rfl
  | resetControl =>
    simp only [State.writeReg]
    split
    · exact fit.softReset
    · exact fit
  | command =>
    simp only [State.writeReg, State.writeCommand]
    repeat' split
    · exact fit.command ..
    · exact fit.congr rfl rfl
    · exact fit.congr rfl rfl
  | shadowControl => exact fit.quiet (State.writeShadowControl_quiet ..)
  | desc c reg => exact fit.writeDescriptor ..

theorem TrafficFits.windowWrite {s : State} (fit : TrafficFits s) (addr : Word) (lanes : BitVec 4) (value : Word) :
    TrafficFits (s.windowWrite addr lanes value) := by
  unfold State.windowWrite
  repeat' split
  · exact fit.writeReg ..
  · exact fit
  · exact fit.congr rfl rfl
  · exact fit

/-! ## Every command -/

theorem exec_trafficFits (i : Instr) {s t : State} (fit : TrafficFits s) (form : s.tc.RecencyForm)
    (legal : LegalDescriptorLaw s) (h : exec i s = .next t) : TrafficFits t := by
  have quiet {f : State → State} (hf : ∀ s, Quiet s (f s)) : TrafficFits (s.unlessReset f) :=
    fit.unlessReset (fit.quiet (hf s))
  have same {f : State → State} (hf : ∀ s, (f s).chans = s.chans) (hr : ∀ s, (f s).traffic = s.traffic) :
      TrafficFits (s.unlessReset f) := quiet fun s => .of_chans_eq (hf s) (hr s)
  cases i <;> cases h
  case resetAssertion => exact fit.unlessReset (.assertReset s)
  case resetRelease =>
    split
    · exact fit.quiet (State.releaseReset_quiet ..)
    · exact fit
  case read | write | sync => exact fit.present ..
  case chEnable | chDisable | chResume | chAbort | xlatFlushPage | xlatFlushChannel | xlatFlushAll | xlatProbe
      | tagsClear => exact fit.unlessReset (fit.command ..)
  case lookupService => exact fit.unlessReset fit.lookupService
  case commandService => exact quiet State.commandService_quiet
  case busGrant => exact fit.unlessReset fit.busGrant
  case walkDataReturn | lineReadDataReturn | lineWriteAcknowledge | killAcknowledge | ignoredCompletion =>
    exact fit.unlessReset (fit.complete form legal _)
  case observedWrite => exact quiet fun s => s.observe_quiet _
  case softReset => exact fit.unlessReset fit.softReset
  case registerWrite => exact fit.unlessReset (fit.windowWrite ..)
  case fill => exact quiet fun s => s.takeFill_quiet ..
  case sweepStep => exact quiet State.takeSweepStep_quiet
  case tick => exact quiet State.tick_quiet
  case idleTimerExpiry => exact quiet fun s => s.expireTimer_quiet _
  case modeWrite => exact quiet fun s => s.writeShadowControl_quiet ..
  case descriptorWrite => exact fit.unlessReset (fit.writeDescriptor ..)
  case faultPop | divisorWrite | wayMaskWrite | globalStatusClear | intCauseClear | channelOffClear | intMaskWrite =>
    exact same (fun _ => rfl) fun _ => rfl

/-- Settles O58: block by block, with the legal descriptors and the two laws of the cache that O55 and O56 keep. -/
theorem trafficLawsKept : Obligations.TrafficLawsKept := by
  intro s t laws h
  obtain ⟨fit, legal, recency, one⟩ := (trafficLaws_iff s).mp laws
  obtain ⟨oneKept, recencyKept⟩ := cacheLawsKept
  obtain ⟨-, -, legalKept, -⟩ := channelLawsKept
  refine (trafficLaws_iff t).mpr ⟨?_, legalKept s t legal h, recencyKept s t recency h, oneKept s t one h⟩
  obtain ⟨i, rest, -, he⟩ | ⟨-, rfl⟩ := step_cases h
  · exact exec_trafficFits i (s := { s with pending := rest }) (fit.congr rfl rfl) recency legal he
  · exact fit.idleStep

end Sys2Proof.Machine
end

section
/-!
SUPPORT. The reset state meets the laws (O60), and what an assertion and a release of `RESET#` leave (R135, R180, R181;
O6).
-/

namespace Sys2Proof.Machine

/-- R122: with no entry queued and no reservation held no place is in use. -/
theorem State.placesInUse_eq_zero {s : State} (entries : s.inv.entries = [])
    (free : ∀ c, (s.chan c).buffer.reservation ≠ .held) : s.placesInUse = 0 := by
  have none : s.reservations = 0 := by
    refine List.countP_eq_zero.mpr fun ch hch => ?_
    obtain ⟨i, hi, rfl⟩ := Vector.getElem_of_mem (Vector.mem_toList_iff.mp hch)
    simpa [State.chan] using free ⟨i, hi⟩
  simp [State.placesInUse, entries, none]

/-- R20, R40: the recency list of the empty cache. -/
theorem Tc.powerOn_recencyForm : Tc.powerOn.RecencyForm := by
  have free (i : Fin 16) : Tc.powerOn.entries[i] = none := by simp [Tc.powerOn]
  refine ⟨List.nodup_finRange 16, ?_, List.mem_finRange⟩
  simp only [free]
  simp [Tc.powerOn, recencyAscending]

theorem State.reset_channel_off (c : Chan) : (State.reset.chan c).Off := by
  rw [State.reset_chan]
  exact ⟨rfl, rfl, rfl, rfl⟩

theorem trafficLaws_reset : TrafficLaws State.reset := by
  refine (trafficLaws_iff _).mpr ⟨.of_powerOn rfl rfl rfl rfl rfl State.reset_channel_off, fun c on => ?_,
    Tc.powerOn_recencyForm, fun i _ a _ ha => ?_⟩
  · exact absurd (State.reset_channel_off c).state on
  · simp [State.reset, Tc.powerOn] at ha

/-- Settles O60: the power-on values of each block, with every channel off. -/
theorem resetMeetsLaws : Obligations.ResetMeetsLaws := by
  have off := State.reset_channel_off
  have places : State.reset.placesInUse = 0 :=
    State.placesInUse_eq_zero rfl fun c => by rw [(off c).buffer]; simp [Buffer.cleared]
  have traffic := trafficLaws_reset
  obtain ⟨-, -, -, ⟨outstanding, -, -, head⟩, resetting, legal, recency, one, -⟩ := id traffic
  refine ⟨?_, .nil, head, Nat.zero_le _, fun set way e h fresh => ?_, Nat.zero_lt_succ _, one, recency, fun c h => ?_,
    fun c h => ?_, legal, fun c => ?_, resetting, outstanding, .inr ⟨rfl, rfl⟩, ⟨false, false, rfl⟩, fun c => ?_, ?_,
    traffic⟩
  · rw [PlacesLaw, places]; exact Nat.zero_le _
  · rw [powerOnSets_fresh (epoch := 0) h] at fresh; cases fresh
  · rw [(off c).buffer] at h; cases h
  · rw [State.reset_chan] at h; cases h
  · rw [State.reset_chan]; rfl
  · obtain ⟨state, txn, -, -⟩ := off c
    simp [state, txn]
  · have reservation (c : Chan) : (State.reset.chan c).buffer.reservation = .none := by rw [(off c).buffer]; rfl
    refine ⟨fun c h => ?_, fun c h => ?_, fun c => ?_, .nil, fun h => absurd rfl h, by omega⟩
    · rw [reservation] at h; cases h
    · rw [reservation] at h; cases h
    · rw [reservation]
      exact iff_of_false List.not_mem_nil (by simp)

/-! ## The RESET# pin -/

theorem strapBase_eq (wsel1 wsel0 : Bool) :
    strapBase wsel1 wsel0 = 0xC8000000 + (if wsel1 then 0x8000 else 0) + (if wsel0 then 0x4000 else 0) := by
  cases wsel1 <;> cases wsel0 <;> rfl

/-- R148: with `RESET#` held `INT#` is not asserted. -/
theorem State.intAsserted_of_held {s : State} (h : s.resetHeld = true) : s.intAsserted = false := by
  simp [State.intAsserted, h]

theorem State.releaseReset_chan (s : State) (wsel1 wsel0 : Bool) (c : Chan) :
    (s.releaseReset wsel1 wsel0).chan c = (s.chan c).atRelease := State.chan_with_chans_map ..

/-- Settles O6: each block at its power-on value, and a request still held answered at the release. -/
theorem resetAssertionAndRelease : Obligations.ResetAssertionAndRelease := by
  refine ⟨fun s live => ⟨s.assertReset, ?_, fun c => ?_, rfl, rfl, rfl, ?_, rfl, rfl, rfl, rfl, rfl, rfl, rfl, rfl,
    fun set way e h => powerOnSets_fresh h, rfl, rfl, rfl, rfl, rfl, rfl, State.intAsserted_of_held rfl, rfl, rfl⟩,
    fun wsel1 wsel0 s held => ⟨s.releaseReset wsel1 wsel0, ?_, strapBase_eq .., fun c => ?_, rfl⟩⟩
  · rw [exec_resetAssertion, State.unlessReset_of_not_held live]
  · rw [State.assertReset_chan, Channel.powerOff]
    cases (s.chan c).txn <;> simp
  · exact State.placesInUse_eq_zero rfl fun c => by rw [State.assertReset_chan]; exact nofun
  · rw [exec_resetRelease, if_pos held]
  · rw [State.releaseReset_chan]
    unfold Channel.atRelease
    cases (s.chan c).held <;> rfl

end Sys2Proof.Machine
end

section
/-!
SUPPORT. The TC port and the command unit's claim on it (R22, R23, R34 to R39), and observed writes (R144): O15, O16,
O21 and O36.
-/

namespace Sys2Proof.Machine

/-! ## The round of the port (R23) -/

theorem portIndex_le (u : PortUser) : portIndex u ≤ 8 := by
  cases u with
  | channel c => exact Nat.le_of_lt c.isLt
  | commandUnit => exact le_rfl

theorem portIndex_injective : Function.Injective portIndex := by
  intro u v h
  cases u with
  | channel c =>
    cases v with
    | channel d => exact congrArg _ (Fin.ext h)
    | commandUnit => exact absurd h (Nat.ne_of_lt c.isLt)
  | commandUnit =>
    cases v with
    | channel d => exact absurd h (Nat.ne_of_gt d.isLt)
    | commandUnit => rfl

/-- R23: the requester whose claim is passed over stands closer to its turn after the service. -/
theorem portWait_lt_of_passed {last u v : PortUser} (before : portWait last v ≤ portWait last u) (other : u ≠ v) :
    portWait v u < portWait last u ∧ portWait last u ≤ 8 := by
  have apart : portIndex u ≠ portIndex v := fun h => other (portIndex_injective h)
  have hl := portIndex_le last
  have hu := portIndex_le u
  have hv := portIndex_le v
  simp only [portWait] at before ⊢
  omega

theorem State.portPick_none_iff (s : State) : s.portPick = none ↔ ∀ u, s.claims u = false := by
  simp [State.portPick, List.find?_eq_none, mem_portOrder]

theorem State.lookupService_of_pick {s : State} {c : Chan} (pick : s.portPick = some (.channel c)) :
    s.lookupService = (s.served (.channel c)).lookup c := by
  simp [State.lookupService, pick]

theorem State.commandService_of_pick {s : State} (pick : s.portPick = some .commandUnit) :
    s.commandService = (s.served .commandUnit).serveCommand := by
  simp [State.commandService, pick]

/-- R23: a drop of entries leaves the last-served requester. -/
theorem State.settle_lastServed (s : State) (c : Chan) : (s.settle c).tc.lastServed = s.tc.lastServed := by
  by_cases h : DrainEnds s c ∨ AbortEnds s c
  · rw [(s.settle_eq c).1 h]
    change (s.trySync c).tc.lastServed = _
    simp
  · rw [(s.settle_eq c).2 h]
    simp

theorem State.lookup_lastServed (s : State) (c : Chan) : (s.lookup c).tc.lastServed = s.tc.lastServed := by
  unfold State.lookup
  repeat' split
  · rfl
  · rw [State.settle_lastServed]
    simp [Tc.touch]
  · simp [State.missLookup]

theorem State.serveCommand_lastServed (s : State) : s.serveCommand.tc.lastServed = s.tc.lastServed := by
  simp only [State.serveCommand]
  repeat' split
  all_goals rfl

/-- Settles O16: the port picks the claim that stands first in the round, and its wait bounds that of every other. -/
theorem portServesInTurn : Obligations.PortServesInTurn := by
  refine ⟨fun s live => ⟨fun none => ?_, fun c next => ?_, fun next => ?_, fun ⟨u, claim⟩ => ?_⟩,
    fun s u v next claim other => portWait_lt_of_passed (next.2 u claim) other⟩
  · have pick := s.portPick_none_iff.mpr none
    rw [exec_lookupService, exec_commandService, State.unlessReset_of_not_held live, State.unlessReset_of_not_held live]
    simp [State.lookupService, State.commandService, pick]
  · have pick := (s.portPick_iff _).mpr next
    rw [exec_lookupService, exec_commandService, State.unlessReset_of_not_held live, State.unlessReset_of_not_held live,
      State.lookupService_of_pick pick]
    exact ⟨by simp [State.commandService, pick], _, rfl, State.lookup_lastServed .., next.1⟩
  · have pick := (s.portPick_iff _).mpr next
    rw [exec_lookupService, exec_commandService, State.unlessReset_of_not_held live, State.unlessReset_of_not_held live,
      State.commandService_of_pick pick]
    exact ⟨by simp [State.lookupService, pick], _, rfl, State.serveCommand_lastServed _, next.1⟩
  · cases pick : s.portPick with
    | none =>
      rw [s.portPick_none_iff.mp pick u] at claim
      cases claim
    | some v => exact ⟨v, (s.portPick_iff v).mp pick⟩

/-! ## The command unit (R22, R169 to R171) -/

theorem CommandName.exec_instr (n : CommandName) (channel : BitVec 4) (page : BitVec 14) (s : State) :
    exec (n.instr channel page) s = .next (s.unlessReset fun s => s.command n channel page) := by
  cases n <;> rfl

/-- Settles O15: a command that passes its tests claims the port, or starts the sweep when the store is IDLE. -/
theorem xlatClaimAndTagsClear : Obligations.XlatClaimAndTagsClear := by
  refine ⟨fun n channel page s ready passes => ?_, fun channel page s ready => ?_⟩
  · have ok : n.operandsOk channel page = true := by
      rcases passes with ⟨rfl | rfl, hc, hp⟩ | ⟨rfl, hc⟩ | rfl <;>
        simp_all [CommandName.operandsOk, CommandName.usesChannel, CommandName.usesPage]
    rw [CommandName.exec_instr, State.unlessReset_of_not_held ready.1, State.command_of_ready ready ok]
    rcases passes with ⟨rfl | rfl, -⟩ | ⟨rfl, -⟩ | rfl <;> rfl
  · have ok : CommandName.tagsClear.operandsOk channel page = true := by
      simp [CommandName.operandsOk, CommandName.usesChannel, CommandName.usesPage]
    have hexec : exec (.tagsClear channel page) s =
        .next (s.clearTags.1.completeCommand .tagsClear channel page s.clearTags.2) := by
      rw [exec_tagsClear, State.unlessReset_of_not_held ready.1, State.command_of_ready ready ok]
      rfl
    refine ⟨fun idle => ?_, fun clearing => ?_⟩
    · rw [hexec]
      simp [State.clearTags, idle, Shadow.startSweep]
    · rw [hexec]
      simp [State.clearTags, clearing]

/-! ## Stale marks (R50, R51) -/

theorem WalkUnit.markStale_slot (w : WalkUnit) (p : Walk → Bool) (i : Fin 2) :
    (w.markStale p).slots[i] =
      w.slots[i].map fun x => if x.issued && p x then { x with stale := true } else x := by
  simp [WalkUnit.markStale]

/-- What a stale mark makes of the slots: the issued walks with `q` are marked, and nothing else changes. -/
theorem WalkUnit.markStale_marked {w : WalkUnit} {p : Walk → Bool} {q : Walk → Prop} (h : ∀ x, p x = true ↔ q x)
    (i : Fin 2) :
    (w.slots[i] = none → (w.markStale p).slots[i] = none) ∧
      ∀ x, w.slots[i] = some x →
        (x.issued = true ∧ q x → (w.markStale p).slots[i] = some { x with stale := true }) ∧
          (¬ (x.issued = true ∧ q x) → (w.markStale p).slots[i] = some x) := by
  rw [WalkUnit.markStale_slot]
  refine ⟨fun hw => by rw [hw]; rfl, fun x hx => ?_⟩
  have mark : (x.issued && p x) = true ↔ x.issued = true ∧ q x := by simp [h]
  rw [hx]
  exact ⟨fun hq => congrArg some (if_pos (mark.mpr hq)), fun hq => congrArg some (if_neg (mt mark.mp hq))⟩

theorem Tc.dropWhere_dropped_of_iff {t : Tc} {p : TcEntry → Bool} {q : TcEntry → Prop} (h : ∀ e, p e = true ↔ q e) :
    Dropped t (t.dropWhere p) q := by
  have same : (fun e => p e = true) = q := funext fun e => propext (h e)
  exact same ▸ t.dropWhere_dropped p

/-! ## Flushes and probes (R34 to R39) -/

theorem chanOfOperand_toNat {channel : BitVec 4} (h : channel.toNat < 8) : (chanOfOperand channel).val = channel.toNat :=
  congrArg Fin.val (chanOfOperand_eq (c := ⟨_, h⟩) rfl)

theorem pageOfOperand_toNat {page : BitVec 14} (h : page.toNat < 8192) : (pageOfOperand page).toNat = page.toNat := by
  simp only [pageOfOperand, BitVec.extractLsb'_toNat, Nat.shiftRight_zero]
  omega

theorem State.serveCommand_of_flush {s : State} {n : CommandName} (named : s.cmd.command = some n) (flush : n ≠ .xlatProbe) :
    s.serveCommand =
      { s.flushTranslations n (chanOfOperand s.cmd.channel) (pageOfOperand s.cmd.page) with
        cmd := { s.cmd with busy := false, outcome := .ok }
        ints := { s.ints with cmdDone := true } } := by
  simp only [State.serveCommand, named, if_neg flush]
  rfl

theorem State.serveCommand_of_probe {s : State} (named : s.cmd.command = some .xlatProbe) :
    s.serveCommand =
      { s with
        tc := { s.tc with probe := s.tc.probeFor (chanOfOperand s.cmd.channel) (pageOfOperand s.cmd.page) }
        cmd := { s.cmd with busy := false, outcome := .ok }
        ints := { s.ints with cmdDone := true } } := by
  simp only [State.serveCommand, named, if_true]
  rfl

/-- Settles O21: a flush drops and marks what its scope names; a probe reports the entry of its pair. -/
theorem commandServed : Obligations.CommandServed := by
  constructor
  · intro n s live next named channel page inScope flush
    have pick := (s.portPick_iff _).mpr next
    have scope (c : Chan) (p : Page) :
        flushScope n (chanOfOperand s.cmd.channel) (pageOfOperand s.cmd.page) c p = true ↔ inScope c p := by
      rcases flush with rfl | rfl | rfl
      · simp [flushScope, inScope, Fin.ext_iff, ← BitVec.toNat_inj, chanOfOperand_toNat (channel nofun),
          pageOfOperand_toNat (page rfl)]
      · simp [flushScope, inScope, Fin.ext_iff, chanOfOperand_toNat (channel nofun)]
      · simp [flushScope, inScope]
    have marked := fun i : Fin 2 => s.walk.markStale_marked (i := i) fun w => scope w.chan w.page
    have notProbe : n ≠ .xlatProbe := by rcases flush with rfl | rfl | rfl <;> nofun
    rw [exec_commandService, State.unlessReset_of_not_held live, State.commandService_of_pick pick,
      State.serveCommand_of_flush (s := s.served .commandUnit) named notProbe]
    refine ⟨_, rfl, Tc.dropWhere_dropped_of_iff fun e => scope e.chan e.page, fun i => (marked i).2, fun i => (marked i).1, rfl⟩
  · intro s live next named hc hp one completed
    have pick := (s.portPick_iff _).mpr next
    have probed (r : ProbeResult)
        (h : s.tc.probeFor (chanOfOperand s.cmd.channel) (pageOfOperand s.cmd.page) = r) :
        exec .commandService s = .next (completed r) := by
      rw [exec_commandService, State.unlessReset_of_not_held live, State.commandService_of_pick pick,
        State.serveCommand_of_probe (s := s.served .commandUnit) named, ← h]
      rfl
    refine ⟨fun i e he chan page => probed _ ?_, fun none => probed _ ?_⟩
    · have hchan : chanOfOperand s.cmd.channel = e.chan := chanOfOperand_eq chan.symm
      have hpage : pageOfOperand s.cmd.page = e.page := BitVec.eq_of_toNat_eq ((pageOfOperand_toNat hp).trans page.symm)
      simp [Tc.probeFor, hchan, hpage, Tc.find_of_entry one he]
    · cases found : s.tc.find (chanOfOperand s.cmd.channel) (pageOfOperand s.cmd.page) with
      | none => simp [Tc.probeFor, found, ProbeResult.miss, Xlat.zero]
      | some x =>
        obtain ⟨i, e⟩ := x
        obtain ⟨he, chan, page⟩ := Tc.find_some found
        refine absurd ⟨?_, ?_⟩ (none i e he)
        · rw [chan, chanOfOperand_toNat hc]
        · rw [page, pageOfOperand_toNat hp]

/-! ## Observed writes (R144) -/

theorem BusWrite.mem_covered_iff (w : BusWrite) (a : Nat) :
    a ∈ w.covered ↔ ∃ k, w.enables[k]? = some true ∧ a = w.addr.toNat + k := by
  simp only [BusWrite.covered, List.mem_filterMap, Option.ite_none_right_eq_some, Option.some.injEq]
  constructor
  · rintro ⟨⟨b, k⟩, hk, hb, rfl⟩
    exact ⟨k, by rw [List.mem_zipIdx_iff_getElem?.mp hk]; exact congrArg some hb, rfl⟩
  · rintro ⟨k, hk, rfl⟩
    exact ⟨(true, k), List.mem_zipIdx_iff_getElem?.mpr hk, rfl, rfl⟩

theorem BusWrite.any_covered_iff (addr : Word) (enables : List Bool) (base : Word) (n : Nat) :
    (({ addr, enables } : BusWrite).covered.any fun a => decide (base.toNat ≤ a) && decide (a < base.toNat + n)) = true ↔
      Writes addr enables base n := by
  simp only [List.any_eq_true, BusWrite.mem_covered_iff, Bool.and_eq_true, decide_eq_true_eq, Writes]
  constructor
  · rintro ⟨_, ⟨k, hk, rfl⟩, inside⟩; exact ⟨k, hk, inside⟩
  · rintro ⟨k, hk, inside⟩; exact ⟨_, ⟨k, hk, rfl⟩, inside⟩

theorem BusWrite.overlapsEntry_iff (addr : Word) (enables : List Bool) (base : Word) :
    ({ addr, enables } : BusWrite).overlapsEntry base = true ↔ Writes addr enables base 4 :=
  BusWrite.any_covered_iff ..

theorem BusWrite.touchesLine_iff (addr : Word) (enables : List Bool) (line : Word) :
    ({ addr, enables } : BusWrite).touchesLine line = true ↔ Writes addr enables line 16 :=
  BusWrite.any_covered_iff ..

/-- Settles O36: each of the four watches compares the enabled bytes with what it holds. -/
theorem observedWrite : Obligations.ObservedWrite := by
  intro addr enables s live
  have entry := BusWrite.overlapsEntry_iff addr enables
  have line := BusWrite.touchesLine_iff addr enables
  refine ⟨s.observe { addr, enables }, ?_, Tc.dropWhere_dropped_of_iff fun e => entry _,
    WalkUnit.markStale_marked fun x => entry x.entryAddr, fun c => ?_, rfl⟩
  · rw [exec_observedWrite, State.unlessReset_of_not_held live]
  rw [State.observe_chan]
  refine ⟨fun h => ?_, fun l hl => ?_, fun h => ?_, fun r hr => ?_, rfl⟩
  · simp [Channel.observe, h]
  · simp [Channel.observe, hl, Option.filter_some, ← line]
  · simp [Channel.observe, h]
  · have mark : (r.issued && ({ addr, enables } : BusWrite).touchesLine r.line) = true ↔
        r.issued = true ∧ Writes addr enables r.line 16 := by simp [line]
    simp only [Channel.observe, hr, Option.map_some]
    exact ⟨fun hq => congrArg some (if_pos (mark.mpr hq)), fun hq => congrArg some (if_neg (mt mark.mp hq))⟩

end Sys2Proof.Machine
end

section
/-!
SUPPORT. A lookup that misses (R27, R43) and a lookup of a WRITE that hits (R26, R81 to R83): O17 and O19.
-/

namespace Sys2Proof.Machine

/-! ## A miss -/

/-- R43: slot 0 comes before slot 1. -/
theorem WalkUnit.idleSlot_eq (w : WalkUnit) :
    w.idleSlot =
      if w.slots[(0 : Fin 2)] = none then some 0 else if w.slots[(1 : Fin 2)] = none then some 1 else none := by
  have two : List.finRange 2 = [0, 1] := rfl
  simp only [WalkUnit.idleSlot, two, List.find?_cons, List.find?_nil]
  cases w.slots[(0 : Fin 2)] <;> cases w.slots[(1 : Fin 2)] <;> rfl

theorem Tc.find_eq_none {t : Tc} {c : Chan} {p : Page}
    (absent : ∀ (i : Fin 16) e, t.entries[i] = some e → ¬ (e.chan = c ∧ e.page = p)) : t.find c p = none := by
  cases found : t.find c p with
  | none => rfl
  | some x =>
    obtain ⟨i, e⟩ := x
    obtain ⟨he, chan, page⟩ := Tc.find_some found
    exact absurd ⟨chan, page⟩ (absent i e he)

/-- R43: what the start of a walk makes of the walk unit. -/
theorem State.startWalk_walk (s : State) (c : Chan) (p : Page) :
    (s.startWalk c p).walk =
      let walk : Walk :=
        { chan := c, page := p, entryAddr := entryAddress (s.chan c).desc.mapOrigin p
          issued := false, stale := false, discard := false }
      if s.walk.slots[(0 : Fin 2)] = none then
        { s.walk with slots := s.walk.slots.set 0 (some walk), requests := s.walk.requests ++ [0] }
      else if s.walk.slots[(1 : Fin 2)] = none then
        { s.walk with slots := s.walk.slots.set 1 (some walk), requests := s.walk.requests ++ [1] }
      else { s.walk with queue := s.walk.queue ++ [{ chan := c, page := p }] } := by
  have idle := s.walk.idleSlot_eq
  dsimp only
  by_cases first : s.walk.slots[(0 : Fin 2)] = none
  · rw [if_pos first] at idle ⊢
    simp only [State.startWalk, idle]
    rfl
  · rw [if_neg first] at idle ⊢
    by_cases second : s.walk.slots[(1 : Fin 2)] = none
    · rw [if_pos second] at idle ⊢
      simp only [State.startWalk, idle]
      rfl
    · rw [if_neg second] at idle ⊢
      simp only [State.startWalk, idle]

/-- R27: a miss moves the transaction to WAIT_WALK and starts the walk. -/
theorem State.missLookup_eq (s : State) (c : Chan) (p : Page) :
    s.missLookup c p = { s with chans := (s.missLookup c p).chans, walk := (s.missLookup c p).walk } := by
  simp only [State.missLookup, State.startWalk]
  split <;> rfl

theorem exec_lookupService_of_miss {c : Chan} {x : Transaction} {access : Access} {addr : ChanAddr} {size : Size}
    {s : State} (released : s.resetHeld = false) (next : NextServed s (.channel c)) (hx : (s.chan c).txn = some x)
    (hr : x.request.access? = some (access, addr, size))
    (absent : ∀ (i : Fin 16) e, s.tc.entries[i] = some e → ¬ (e.chan = c ∧ e.page = pageOf addr)) :
    exec .lookupService s = .next ((s.served (.channel c)).missLookup c (pageOf addr)) := by
  have missed : (s.served (.channel c)).tc.find c (pageOf addr) = none := Tc.find_eq_none absent
  have access : ((s.served (.channel c)).chan c).txn.bind (fun t => t.request.access?) = some (access, addr, size) := by
    rw [State.chan_of_chans (State.served_chans ..), hx]
    exact hr
  rw [exec_lookupService, State.unlessReset_of_not_held released, State.lookupService_of_pick ((s.portPick_iff _).mpr next)]
  simp only [State.lookup, access, missed]

/-- Settles O17: no entry of the pair is found, and the walk takes the first idle slot or the queue's tail. -/
theorem lookupMiss : Obligations.LookupMiss := by
  intro c x access addr size s released next hx hr absent walk
  refine ⟨_, exec_lookupService_of_miss released next hx hr absent, ?_, ?_, fun d hd => ?_, State.missLookup_eq ..⟩
  · have entry : entryAddress (s.chan c).desc.mapOrigin (pageOf addr) = walk.entryAddr := by
      rw [entryAddress_eq, pageOf_toNat]
    rw [State.missLookup, State.startWalk_walk]
    simp only [State.modChan_walk, State.chan_modChan_self]
    rw [show ((s.served (.channel c)).chan c).desc = (s.chan c).desc from rfl, entry]
    rfl
  · rw [State.missLookup, State.startWalk_chan, State.chan_modChan_self,
      State.chan_of_chans (State.served_chans ..), hx]
    rfl
  · rw [State.missLookup, State.startWalk_chan, State.chan_modChan_ne _ (Ne.symm hd)]
    rfl

/-! ## A hit of a WRITE -/

/-- R82: the bytes of one WRITE never fill a line. -/
theorem exists_outside_of_size (pos : Nat) (size : Size) : ∃ k : Fin 16, ¬ (pos ≤ k.val ∧ k.val < pos + size.bytes) := by
  have small : size.bytes ≤ 4 := by cases size <;> decide
  by_cases h : pos = 0
  · exact ⟨15, by simp only [h, Fin.isValue]; omega⟩
  · exact ⟨0, by simp only [Fin.isValue, Fin.val_zero]; omega⟩

/-- Settles O19: the permission check passes, and the WRITE reaches its buffer, which a WRITE alone does not fill. -/
theorem lookupHitWrite : Obligations.LookupHitWrite := by
  have reached {c : Chan} {x : Transaction} {addr : ChanAddr} {data : WriteData} {i : Fin 16} {e : TcEntry} {s : State}
      (released : s.resetHeld = false) (next : NextServed s (.channel c)) (one : OneTranslationLaw s)
      (hx : (s.chan c).txn = some x) (hr : x.request = .write addr data) (he : s.tc.entries[i] = some e)
      (hc : e.chan = c) (hp : e.page = pageOf addr) (allowed : e.xlat.wr = true) :
      ∃ u t, exec .lookupService s = .next t ∧ WriteReached (s.afterHit c i) u c addr data (boundTo e.xlat addr) ∧
        ConditionsTested u t c ∧ ((s.chan c).state = .active ∨ (s.chan c).state = .faulted → t = u) := by
    obtain ⟨u, t, ht, checked, tested, same⟩ :=
      exec_lookupService_checked (access := .write) released next one hx (by rw [hr]; rfl) he hc hp
    exact ⟨u, t, ht, ((checked x hx).2 addr data hr).2 allowed, tested, same⟩
  refine ⟨fun c x addr data i e s released next one active hx hr he hc hp allowed empty _ => ?_,
    fun c x addr data i e s => reached⟩
  obtain ⟨u, t, ht, ⟨merges, -⟩, -, same⟩ := reached released next one hx hr he hc hp allowed
  have pos : (boundTo e.xlat addr).pos.toNat = addr.toNat % 16 := posOf_toNat addr
  obtain ⟨m, ⟨state, line, bytes, coh, lineStart, reservation⟩, timer, -, kept, chan, others, frame⟩ := merges (.inl empty)
  have empty' : ((s.afterHit c i).chan c).buffer.state = .empty := empty
  simp only [pos, empty', reduceCtorEq, if_false, false_and, or_false] at bytes coh lineStart reservation
  have staysOpen : ¬ ((∀ k : Fin 16, m.mask[k] = true) ∨ ((s.afterHit c i).chan c).state ≠ .active) := by
    rintro (full | idle)
    · obtain ⟨k, outside⟩ := exists_outside_of_size (addr.toNat % 16) data.size
      obtain ⟨-, -, masked⟩ := bytes k
      exact outside (masked.mp (full k))
    · exact idle active
  obtain ⟨rfl, inv⟩ := kept staysOpen
  rw [same (.inl active)] at ht
  refine ⟨u, ht, state, line, fun k => ?_, ?_, ?_, reservation, timer active, chan, others, ?_⟩
  · obtain ⟨placed, untouched, masked⟩ := bytes k
    exact ⟨fun inside => ⟨masked.mpr inside, placed inside⟩, fun outside =>
      ⟨by simpa using mt masked.mp outside, untouched outside⟩⟩
  · exact Bool.eq_iff_iff.mpr coh
  · rw [lineStart, lineStartOf_toNat]
  · rw [frame, inv]
    rfl

end Sys2Proof.Machine
end

section
/-!
SUPPORT. CH_DISABLE (R65, R68, R69): the channel is flushed and set DRAINING, and its conditions are tested; O13.
-/

namespace Sys2Proof.Machine

/-- R68, R83: the channel flushed and DRAINING, its read-ahead line dropped, before its conditions are tested. -/
def State.startDrain (s : State) (c : Chan) : State :=
  (s.flushBuffer c).modChan c fun ch => { ch with state := .draining, readAhead := none }

theorem State.disableChannel_of_on {s : State} {c : Chan} (on : (s.chan c).state = .active ∨ (s.chan c).state = .faulted) :
    s.disableChannel c = ((s.startDrain c).settle c, .ok) := by
  rw [State.disableChannel, if_pos on]
  rfl

theorem State.disableChannel_of_not_on {s : State} {c : Chan}
    (off : ¬ ((s.chan c).state = .active ∨ (s.chan c).state = .faulted)) : s.disableChannel c = (s, .wrongState) := by
  rw [State.disableChannel, if_neg off]

section
variable (s : State) (c : Chan)

theorem State.startDrain_chan_self :
    (s.startDrain c).chan c =
      { s.chan c with
        state := .draining, readAhead := none, buffer := ((s.startDrain c).chan c).buffer } := by
  simp only [State.startDrain, State.chan_modChan_self]
  rw [State.flushBuffer_chan_self]

theorem State.startDrain_chan_ne {d : Chan} (hd : d ≠ c) : (s.startDrain c).chan d = s.chan d := by
  rw [State.startDrain, State.chan_modChan_ne _ (Ne.symm hd), State.flushBuffer_chan_ne s hd]

theorem State.startDrain_eq :
    s.startDrain c = { s with chans := (s.startDrain c).chans, inv := (s.startDrain c).inv } := by
  conv_lhs => rw [State.startDrain, State.flushBuffer_eq]
  rfl

theorem State.startDrain_flushed : Flushed s (s.startDrain c) c := by
  refine (s.flushBuffer_flushed c).congr rfl ?_ rfl rfl rfl rfl
  rw [State.startDrain, State.chan_modChan_self]

/-- R63: a buffer that is FILLING is not EMPTY after its flush, so the SYNC condition is what it was. -/
theorem State.startDrain_syncCondition_iff : SyncCondition (s.startDrain c) c ↔ SyncCondition s c := by
  have flushed := s.startDrain_flushed c
  simp only [Flushed] at flushed
  have entries : (s.startDrain c).inv.entries = s.inv.entries := s.flushBuffer_entries c
  split at flushed
  · next filling =>
    obtain ⟨pending, -⟩ := flushed
    refine iff_of_false (fun h => ?_) fun h => ?_
    · have empty := h.1
      rw [pending] at empty
      cases empty
    · rw [h.1] at filling
      cases filling
  · obtain ⟨same, -⟩ := flushed
    simp only [SyncCondition, same, entries]

theorem State.startDrain_inSlot : (s.startDrain c).inSlot c = s.inSlot c := by rw [State.startDrain_eq]; rfl

theorem State.startDrain_inWalkQueue : (s.startDrain c).inWalkQueue c = s.inWalkQueue c := by
  rw [State.startDrain_eq]; rfl

variable {s c}

/-- R63: a SYNC whose condition held was answered before. -/
theorem State.startDrain_not_syncEnds (settled : SettledLaw s) : ¬ SyncEnds (s.startDrain c) c := by
  rintro ⟨⟨x, hx, sync⟩, condition⟩
  have ready := (s.syncReady_iff c).mpr ((s.startDrain_syncCondition_iff c).mp condition)
  rw [State.startDrain_chan_self] at hx
  rw [(settled c).1 x hx sync] at ready
  cases ready

theorem State.startDrain_not_abortEnds : ¬ AbortEnds (s.startDrain c) c := by
  rintro ⟨aborting, -⟩
  rw [State.startDrain_chan_self] at aborting
  cases aborting

theorem State.startDrain_drainEnds_iff (settled : SettledLaw s) :
    DrainEnds (s.startDrain c) c ↔ s.drainReady c = true := by
  have draining : ((s.startDrain c).chan c).state = .draining := by rw [State.startDrain_chan_self]
  have txn : ((s.startDrain c).chan c).txn = (s.chan c).txn := by rw [State.startDrain_chan_self]
  have sync := State.startDrain_not_syncEnds (c := c) settled
  rw [State.drainReady_iff, DrainEnds, State.startDrain_syncCondition_iff, State.startDrain_inSlot,
    State.startDrain_inWalkQueue, draining, txn, SyncCondition]
  tauto

end

/-- Settles O13: the flush, and the test of the drain condition, which is the one that held before the flush. -/
theorem chDisable : Obligations.ChDisable := by
  intro c channel page s ready hc settled
  have hexec : exec (.chDisable channel page) s =
      .next ((s.disableChannel c).1.completeCommand .chDisable channel page (s.disableChannel c).2) := by
    rw [exec_chDisable, State.channelCommand_of_ready ready hc rfl, State.dispatchCommand, chanOfOperand_eq hc]
  refine ⟨fun on => ?_, fun active faulted => ?_⟩
  · have drains := State.startDrain_drainEnds_iff (c := c) settled
    have noAbort := State.startDrain_not_abortEnds (s := s) (c := c)
    have flushed := s.startDrain_flushed c
    have begun := s.startDrain_chan_self c
    have kept := fun d hd => s.startDrain_chan_ne c (d := d) hd
    have frame := s.startDrain_eq c
    have noSync := State.startDrain_not_syncEnds (c := c) settled
    have tested := (s.startDrain c).settle_tested c
    rw [hexec, State.disableChannel_of_on on]
    generalize s.startDrain c = u at drains noAbort flushed begun kept frame noSync tested ⊢
    generalize u.settle c = v at tested ⊢
    obtain ⟨⟨-, keptSync⟩, ends, goesOn, self, others, frame'⟩ := tested
    obtain ⟨txn, answers⟩ := keptSync noSync
    have buffer : (v.chan c).buffer = (u.chan c).buffer := by rw [self]
    have inv : v.inv = u.inv := by rw [frame']
    have channel : v.chan c =
        { s.chan c with state := (v.chan c).state, readAhead := none, buffer := (v.chan c).buffer } := by
      rw [buffer]
      conv_lhs => rw [self, txn, answers, begun]
    have tc : u.tc = s.tc := by rw [frame]
    have ints : u.ints = s.ints := by rw [frame]
    refine ⟨_, rfl, flushed.congr rfl buffer rfl inv rfl rfl, fun d hd => (others d hd).trans (kept d hd), rfl, ?_, ?_⟩
    · split
      · next ready =>
        obtain ⟨state, dropped, raised⟩ := ends (.inl (drains.mpr ready))
        obtain ⟨-, empty, -⟩ := (s.drainReady_iff c).mp ready
        have unflushed : (u.chan c).buffer = (s.chan c).buffer := by
          simp only [Flushed, empty, reduceCtorEq, if_false] at flushed
          exact flushed.1
        rw [state, buffer, unflushed] at channel
        exact ⟨channel, tc ▸ dropped, by rw [← ints]; exact congrArg (fun x => { x with cmdDone := true }) raised⟩
      · next notReady =>
        have neither : ¬ (DrainEnds u c ∨ AbortEnds u c) := fun h => h.elim (notReady ∘ drains.mp) noAbort
        obtain ⟨state, sameTc, sameInts⟩ := goesOn neither
        rw [state, show (u.chan c).state = .draining by rw [begun]] at channel
        exact ⟨channel, sameTc.trans tc, congrArg (fun x => { x with cmdDone := true }) (sameInts.trans ints)⟩
    · rw [frame', frame]
      rfl
  · rw [hexec, State.disableChannel_of_not_on (by simp [active, faulted])]

end Sys2Proof.Machine
end

section
/-!
SUPPORT. The acknowledge of a line write that completes a drain or an abort (R69, R71, R89), and the acknowledge of a KILL
(R131): O32 and O33.
-/

namespace Sys2Proof.Machine

/-! ## A buffer emptied with nothing waiting for it -/

/-- R89: the record freed and the buffer EMPTY, before the conditions are tested. -/
def State.emptied (s : State) (id : Nat) (c : Chan) : State := (s.freeRecord id).setBuffer c Buffer.cleared

theorem State.emptied_chan_self (s : State) (id : Nat) (c : Chan) :
    (s.emptied id c).chan c = { s.chan c with buffer := Buffer.cleared } := State.chan_modChan_self ..

/-- R89: with no reservation held and no transaction that waits for the buffer, only the conditions remain. -/
theorem exec_lineWriteAcknowledge_emptied {s : State} {id : Nat} {c : Chan} (released : s.resetHeld = false)
    (running : s.bridge = .running) (hrec : s.bus.recordOf id = some { id, requester := .write c })
    (writing : (s.chan c).buffer.state = .writing) (free : (s.chan c).buffer.reservation ≠ .held)
    (txn : (s.chan c).txn = none) :
    exec (.lineWriteAcknowledge id .ok) s = .next ((s.emptied id c).settle c) := by
  have resolved : (s.freeRecord id).resolveReservation c = s.freeRecord id := if_neg free
  have restarted : (s.emptied id c).restartWaiting c = s.emptied id c := by
    have gone : ((s.emptied id c).chan c).txn = none := by rw [State.emptied_chan_self]; exact txn
    simp only [State.restartWaiting, gone]
  have acked : (s.freeRecord id).lineWriteAck c .ok = (s.emptied id c).settle c := by
    have standing : ((s.freeRecord id).chan c).buffer.state = .writing := writing
    rw [State.lineWriteAck, if_pos standing]
    simp only [resolved]
    exact congrArg (State.settle · c) restarted
  rw [exec_lineWriteAcknowledge, State.unlessReset_of_not_held released]
  simp only [State.complete, hrec, acked]
  rw [State.endResetting_of_running (by simpa [State.emptied] using running)]

theorem State.emptied_not_syncEnds {s : State} {id : Nat} {c : Chan} (txn : (s.chan c).txn = none) :
    ¬ SyncEnds (s.emptied id c) c := by
  rintro ⟨⟨x, hx, -⟩, -⟩
  rw [State.emptied_chan_self] at hx
  rw [show (s.chan c).txn = some x from hx] at txn
  cases txn

/-- R38, R69, R71, R160: the channel's last cycle is acknowledged, and it reaches DISABLED. -/
theorem State.emptied_settle_disabled {s : State} {id : Nat} {c : Chan} (txn : (s.chan c).txn = none)
    (ends : DrainEnds (s.emptied id c) c ∨ AbortEnds (s.emptied id c) c) :
    let t := (s.emptied id c).settle c
    t.chan c = { s.chan c with state := .disabled, buffer := Buffer.cleared } ∧
      Dropped s.tc t.tc (fun e => e.chan = c) ∧
      (∀ d, d ≠ c → t.chan d = s.chan d) ∧
      t = { s.freeRecord id with
        chans := t.chans
        tc := t.tc
        ints := { s.ints with channelOff := s.ints.channelOff ||| BitVec.ofNat 8 (2 ^ c.val) } } := by
  intro t
  have self := s.emptied_chan_self id c
  obtain ⟨⟨-, keptSync⟩, disables, -, channel, others, frame⟩ := (s.emptied id c).settle_tested c
  obtain ⟨state, dropped, raised⟩ := disables ends
  obtain ⟨sameTxn, answers⟩ := keptSync (State.emptied_not_syncEnds txn)
  rw [state, sameTxn, answers, self] at channel
  refine ⟨channel, dropped, fun d hd => (others d hd).trans (State.chan_modChan_ne _ (Ne.symm hd) _), ?_⟩
  change (s.emptied id c).settle c = _
  rw [frame, raised]
  rfl

/-- Settles O32: the emptied buffer was the last part of the condition, or a walk or a line read still stands. -/
theorem ackCompletesDrain : Obligations.AckCompletesDrain := by
  refine ⟨fun id c s released running hrec writing free draining txn slot queue entries => ?_,
    fun id c s released running hrec writing free aborting txn => ?_⟩
  · have condition : SyncCondition (s.emptied id c) c := by
      refine ⟨?_, ?_, entries⟩
      · rw [State.emptied_chan_self]; rfl
      · rw [State.emptied_chan_self]; nofun
    have ends : DrainEnds (s.emptied id c) c := by
      refine ⟨?_, .inl ?_, condition, queue, slot⟩
      · rw [State.emptied_chan_self]; exact draining
      · rw [State.emptied_chan_self]; exact txn
    exact ⟨_, exec_lineWriteAcknowledge_emptied released running hrec writing free txn,
      State.emptied_settle_disabled txn (.inl ends)⟩
  · have acked := exec_lineWriteAcknowledge_emptied released running hrec writing free txn
    have self := s.emptied_chan_self id c
    refine ⟨fun slot reads => ?_, fun still => ?_⟩
    · have ends : AbortEnds (s.emptied id c) c := by
        refine ⟨?_, slot, ?_, ?_⟩
        · rw [self]; exact aborting
        · rw [self]; exact reads
        · rw [self]; nofun
      exact ⟨_, acked, State.emptied_settle_disabled txn (.inr ends)⟩
    · have neither : ¬ (DrainEnds (s.emptied id c) c ∨ AbortEnds (s.emptied id c) c) := by
        rintro (⟨draining, -⟩ | ⟨-, slot, reads, -⟩)
        · rw [self] at draining
          rw [show (s.chan c).state = .draining from draining] at aborting
          cases aborting
        · rw [self] at reads
          rcases still with held | ⟨r, hr, issued⟩
          · rw [show s.inSlot c = false from slot] at held
            cases held
          · rw [reads r hr] at issued
            cases issued
      rw [acked, ((s.emptied id c).settle_eq c).2 neither, State.trySync_of_not_ends (State.emptied_not_syncEnds txn)]
      rfl

end Sys2Proof.Machine
end

section
/-!
SUPPORT. The conditions of several channels tested in turn (R63, R69, R71), and the acknowledge of a KILL (R131): O33.
-/

namespace Sys2Proof.Machine

/-! ## The test of one channel's conditions -/

/-- R69, R71: the channel's drain or its abort ends. -/
def TurnsOff (s : State) (c : Chan) : Prop := DrainEnds s c ∨ AbortEnds s c

section
variable {s t : State} {c : Chan} (chan : t.chan c = s.chan c) (inv : t.inv = s.inv)
include chan inv

theorem syncEnds_congr : SyncEnds t c ↔ SyncEnds s c := by simp only [SyncEnds, SyncCondition, chan, inv]

variable (walk : t.walk = s.walk)
include walk

theorem drainEnds_congr : DrainEnds t c ↔ DrainEnds s c := by
  simp only [DrainEnds, SyncEnds, SyncCondition, State.inWalkQueue, State.inSlot, chan, inv, walk]

theorem turnsOff_congr : TurnsOff t c ↔ TurnsOff s c := by
  simp only [TurnsOff, drainEnds_congr chan inv walk]
  simp only [AbortEnds, State.inSlot, chan, walk]

/-- What the test makes of a channel depends on the channel, the invalidate queue and the walk unit. -/
theorem State.settle_chan_congr : (t.settle c).chan c = (s.settle c).chan c := by
  have sync : (t.trySync c).chan c = (s.trySync c).chan c := by
    by_cases h : SyncEnds s c
    · obtain ⟨⟨x, hx, -⟩, -⟩ := id h
      rw [State.trySync_of_ends hx h, State.trySync_of_ends (chan.symm ▸ hx) ((syncEnds_congr chan inv).mpr h),
        State.chan_answer_self, State.chan_answer_self, chan]
    · rw [State.trySync_of_not_ends h, State.trySync_of_not_ends (mt (syncEnds_congr chan inv).mp h), chan]
  by_cases h : TurnsOff s c
  · rw [(s.settle_eq c).1 h, (t.settle_eq c).1 ((turnsOff_congr chan inv walk).mpr h), State.reachDisabled_chan,
      State.reachDisabled_chan, sync]
  · rw [(s.settle_eq c).2 h, (t.settle_eq c).2 (mt (turnsOff_congr chan inv walk).mp h), sync]

end

section
variable (s : State) (c : Chan)

theorem State.settle_chan_ne {d : Chan} (hd : d ≠ c) : (s.settle c).chan d = s.chan d := by
  obtain ⟨-, -, -, -, others, -⟩ := s.settle_tested c
  exact others d hd

theorem State.settle_eq_with :
    s.settle c = { s with chans := (s.settle c).chans, tc := (s.settle c).tc, ints := (s.settle c).ints } := by
  obtain ⟨-, -, -, -, -, frame⟩ := s.settle_tested c
  exact frame

theorem State.settle_inv : (s.settle c).inv = s.inv := by rw [State.settle_eq_with]

theorem State.settle_walk : (s.settle c).walk = s.walk := by rw [State.settle_eq_with]

theorem State.settle_not_syncEnds : ¬ SyncEnds (s.settle c) c := by
  rintro ⟨⟨x, hx, sync⟩, condition⟩
  obtain ⟨⟨ended, kept⟩, -, -, channel, -⟩ := s.settle_tested c
  by_cases h : SyncEnds s c
  · obtain ⟨⟨y, hy, -⟩, -⟩ := id h
    rw [(ended y hy h).1] at hx
    cases hx
  · refine h ⟨⟨x, (kept h).1 ▸ hx, sync⟩, ?_⟩
    rw [SyncCondition, channel, State.settle_inv] at condition
    exact condition

theorem State.settle_not_turnsOff : ¬ TurnsOff (s.settle c) c := by
  obtain ⟨sync, disables, stays, channel, -⟩ := s.settle_tested c
  have gone := sync.txn_none_iff
  by_cases h : TurnsOff s c
  · have off := (disables h).1
    rintro (⟨draining, -⟩ | ⟨aborting, -⟩)
    · rw [off] at draining; cases draining
    · rw [off] at aborting; cases aborting
  · have state := (stays h).1
    have inWalkQueue : (s.settle c).inWalkQueue c = s.inWalkQueue c := by simp only [State.inWalkQueue, State.settle_walk]
    have inSlot : (s.settle c).inSlot c = s.inSlot c := by simp only [State.inSlot, State.settle_walk]
    have buffer : ((s.settle c).chan c).buffer = (s.chan c).buffer := by rw [channel]
    have lineRead : ((s.settle c).chan c).lineRead = (s.chan c).lineRead := by rw [channel]
    refine fun h' => h ?_
    simp only [TurnsOff, DrainEnds, AbortEnds, SyncCondition, state, inWalkQueue, inSlot, buffer, lineRead,
      State.settle_inv, gone, s.settle_not_syncEnds c, or_false] at h' ⊢
    exact h'

theorem State.settle_settle : (s.settle c).settle c = s.settle c := by
  rw [((s.settle c).settle_eq c).2 (s.settle_not_turnsOff c), State.trySync_of_not_ends (s.settle_not_syncEnds c)]

/-- A test of another channel does not change a channel's conditions. -/
theorem State.settle_turnsOff_iff (d : Chan) : TurnsOff (s.settle c) d ↔ TurnsOff s d ∧ d ≠ c := by
  by_cases hd : d = c
  · subst hd
    simp [s.settle_not_turnsOff d]
  · rw [turnsOff_congr (s.settle_chan_ne c hd) (s.settle_inv c) (s.settle_walk c)]
    simp [hd]

end

/-! ## Drops in turn -/

theorem Dropped.of_iff {a b : Tc} {p q : TcEntry → Prop} (h : Dropped a b p) (same : ∀ e, q e ↔ p e) : Dropped a b q := by
  rwa [show q = p from funext fun e => propext (same e)]

/-- R19, R20: two drops in turn are the drop of the entries that either drops. -/
theorem Dropped.trans {a b c : Tc} {p q : TcEntry → Prop} (h₁ : Dropped a b p) (h₂ : Dropped b c q) :
    Dropped a c fun e => p e ∨ q e := by
  obtain ⟨valid, free, recency, last, probe⟩ := h₁
  obtain ⟨valid', free', recency', last', probe'⟩ := h₂
  have fewer (i : Fin 16) (h : c.entries[i].isSome = true) : b.entries[i].isSome = true := by
    by_contra none
    rw [free' i (by simpa using none)] at h
    cases h
  refine ⟨fun i e he => ⟨fun h => ?_, fun h => ?_⟩, fun i hi => free' i (free i hi), ?_, last'.trans last, probe'.trans probe⟩
  · by_cases hp : p e
    · exact free' i ((valid i e he).1 hp)
    · exact (valid' i e ((valid i e he).2 hp)).1 (h.resolve_left hp)
  · rw [not_or] at h
    exact (valid' i e ((valid i e he).2 h.1)).2 h.2
  · have both (i : Fin 16) : (c.entries[i].isSome && b.entries[i].isSome) = c.entries[i].isSome := by
      cases hc : c.entries[i].isSome with
      | false => rfl
      | true => rw [fewer i hc]; rfl
    have neither (i : Fin 16) : (c.entries[i].isSome && b.entries[i].isNone) = false := by
      cases hc : c.entries[i].isSome with
      | false => rfl
      | true => rw [Option.isNone_eq_false_iff.mpr (fewer i hc)]; rfl
    have kept : (a.recency.filter fun i => b.entries[i].isSome).filter (fun i => c.entries[i].isSome) =
        a.recency.filter fun i => c.entries[i].isSome := by
      rw [List.filter_filter]
      exact List.filter_congr fun i _ => both i
    have gone : ((List.finRange 16).filter fun i => b.entries[i].isNone).filter (fun i => c.entries[i].isSome) = [] := by
      rw [List.filter_filter, List.filter_eq_nil_iff]
      exact fun i _ => by rw [neither i]; exact Bool.false_ne_true
    rw [recency', recency, List.filter_append, kept, gone, List.append_nil]

/-! ## The conditions of several channels -/

theorem State.foldl_settle_chan (l : List Chan) (s : State) (c : Chan) :
    (l.foldl State.settle s).chan c = if c ∈ l then (s.settle c).chan c else s.chan c := by
  induction l generalizing s with
  | nil => rfl
  | cons d l ih =>
    rw [List.foldl_cons, ih]
    by_cases hc : c = d
    · subst hc
      simp [State.settle_settle]
    · have same := State.settle_chan_congr (s.settle_chan_ne d hc) (s.settle_inv d) (s.settle_walk d)
      simp [hc, same, s.settle_chan_ne d hc]

theorem State.foldl_settle_eq (l : List Chan) (s : State) :
    let t := l.foldl State.settle s
    t = { s with chans := t.chans, tc := t.tc, ints := t.ints } := by
  induction l generalizing s with
  | nil => rfl
  | cons d l ih =>
    refine (ih (s.settle d)).trans ?_
    rw [List.foldl_cons]
    generalize l.foldl State.settle (s.settle d) = t
    rw [State.settle_eq_with s d]

/-- R38: the cache after the tests. -/
theorem State.foldl_settle_tc (l : List Chan) (s : State) :
    ((∀ c ∈ l, ¬ TurnsOff s c) → (l.foldl State.settle s).tc = s.tc) ∧
      ((∃ c ∈ l, TurnsOff s c) →
        Dropped s.tc (l.foldl State.settle s).tc fun e => e.chan ∈ l ∧ TurnsOff s e.chan) := by
  induction l generalizing s with
  | nil => exact ⟨fun _ => rfl, by rintro ⟨c, hc, -⟩; cases hc⟩
  | cons d l ih =>
    obtain ⟨kept, dropped⟩ := ih (s.settle d)
    simp only [State.settle_turnsOff_iff] at kept dropped
    obtain ⟨-, disables, stays, -⟩ := s.settle_tested d
    rw [List.foldl_cons]
    by_cases hd : TurnsOff s d
    · obtain ⟨-, first, -⟩ := disables hd
      refine ⟨fun none => absurd hd (none d (by simp)), fun _ => ?_⟩
      by_cases more : ∃ c ∈ l, TurnsOff s c ∧ c ≠ d
      · refine (first.trans (dropped more)).of_iff fun e => ?_
        by_cases he : e.chan = d <;> simp [he, hd]
      · push Not at more
        rw [kept fun c hc h => h.2 (more c hc h.1)]
        refine first.of_iff fun e => ?_
        by_cases he : e.chan = d
        · simp [he, hd]
        · simp only [List.mem_cons, he, false_or, iff_false]
          exact fun h => he (more e.chan h.1 h.2)
    · obtain ⟨-, same, -⟩ := stays hd
      rw [same] at kept dropped
      have other {c : Chan} (h : TurnsOff s c) : c ≠ d := fun e => hd (e ▸ h)
      refine ⟨fun none => kept fun c hc h => none c (by simp [hc]) h.1, ?_⟩
      rintro ⟨c, hc, h⟩
      have hl : c ∈ l := (List.mem_cons.mp hc).resolve_left (other h)
      refine (dropped ⟨c, hl, h, other h⟩).of_iff fun e => ?_
      constructor
      · rintro ⟨he, h⟩
        exact ⟨(List.mem_cons.mp he).resolve_left (other h), h, other h⟩
      · rintro ⟨he, h, -⟩
        exact ⟨List.mem_cons_of_mem _ he, h⟩

/-- R160: channel `c`'s place in the CHANNEL_OFF set. -/
theorem getLsbD_or_channelOff (x : BitVec 8) (c d : Chan) :
    (x ||| BitVec.ofNat 8 (2 ^ c.val)).getLsbD d.val = true ↔ x.getLsbD d.val = true ∨ d = c := by
  have small : d.val < 8 := d.isLt
  rw [BitVec.getLsbD_or, BitVec.getLsbD_ofNat, Nat.testBit_two_pow, Bool.or_eq_true]
  simp only [small, decide_true, Bool.true_and, decide_eq_true_eq, Fin.ext_iff]
  exact or_congr_right eq_comm

/-- R160: the causes after the tests: the CHANNEL_OFF set grows by the channels that turn off. -/
theorem State.foldl_settle_ints (l : List Chan) (s : State) :
    let t := l.foldl State.settle s
    (∀ c : Chan, t.ints.channelOff.getLsbD c.val = true ↔
        s.ints.channelOff.getLsbD c.val = true ∨ (c ∈ l ∧ TurnsOff s c)) ∧
      t.ints = { s.ints with channelOff := t.ints.channelOff } := by
  induction l generalizing s with
  | nil => exact ⟨fun c => by simp, rfl⟩
  | cons d l ih =>
    obtain ⟨off, rest⟩ := ih (s.settle d)
    simp only [State.settle_turnsOff_iff] at off
    obtain ⟨-, disables, stays, -⟩ := s.settle_tested d
    rw [List.foldl_cons]
    by_cases hd : TurnsOff s d
    · obtain ⟨-, -, raised⟩ := disables hd
      rw [raised] at off rest
      refine ⟨fun c => ?_, rest⟩
      rw [off c, getLsbD_or_channelOff]
      by_cases hc : c = d <;> simp [hc, hd]
    · obtain ⟨-, -, same⟩ := stays hd
      rw [same] at off rest
      refine ⟨fun c => ?_, rest⟩
      rw [off c]
      by_cases hc : c = d <;> simp [hc, hd]

/-! ## The acknowledge of a KILL -/

/-- R131: the acknowledged head removed, its record freed, and its place handed on. -/
def State.killRemoved (s : State) (id : Nat) (rest : List InvEntry) : State :=
  ({ s.freeRecord id with inv := { s.inv with entries := rest } } : State).grantPlace

/-- R131 step 2: a bus error sets KILL_FAIL and raises COHERENCE. -/
def State.killNoted (s : State) : Ack → State
  | .ok => s
  | .busError => s.raiseKillFail

theorem State.killNoted_eq (s : State) (ack : Ack) :
    s.killNoted ack =
      { s with
        sticky := if ack = .busError then { s.sticky with killFail := true } else s.sticky
        ints := { s.ints with coherence := s.ints.coherence || decide (ack = .busError) } } := by
  cases ack <;> simp [State.killNoted, State.raiseKillFail]

/-- R131 step 3: the conditions of the channels in the set are tested in turn; R134: RESETTING may end. -/
def State.killTested (s : State) (l : List Chan) (ack : Ack) : State :=
  (l.foldl State.settle (s.killNoted ack)).endResetting

theorem State.raiseKillFail_grantPlace (s : State) : s.raiseKillFail.grantPlace = s.grantPlace.raiseKillFail := by
  have places : s.raiseKillFail.placesInUse = s.placesInUse := rfl
  have waiters : s.raiseKillFail.inv.waiters = s.inv.waiters := rfl
  simp only [State.grantPlace, waiters, places]
  split
  · rfl
  · split <;> rfl

theorem exec_killAcknowledge_of_record {s : State} {id : Nat} {e : InvEntry} {rest : List InvEntry}
    (released : s.resetHeld = false) (hrec : s.bus.recordOf id = some { id, requester := .kill })
    (entries : s.inv.entries = e :: rest) (issued : e.issued = true) (ack : Ack) :
    exec (.killAcknowledge id ack) s =
      .next ((s.killRemoved id rest).killTested e.chans ack) := by
  have listed : (s.freeRecord id).inv.entries = e :: rest := entries
  rw [exec_killAcknowledge, State.unlessReset_of_not_held released]
  simp only [State.complete, hrec, State.killAck, listed, issued, if_true]
  cases ack with
  | ok => rfl
  | busError =>
    exact congrArg (fun t : State => Host.Outcome.next (e.chans.foldl State.settle t).endResetting)
      (State.raiseKillFail_grantPlace { s.freeRecord id with inv := { s.inv with entries := rest } })

section
variable (u : State) (l : List Chan) (ack : Ack)

theorem State.endResetting_eq (s : State) : s.endResetting = { s with bridge := s.endResetting.bridge } := by
  simp only [State.endResetting]
  split <;> rfl

theorem State.killNoted_turnsOff_iff (c : Chan) : TurnsOff (u.killNoted ack) c ↔ TurnsOff u c := by
  rw [State.killNoted_eq]
  exact turnsOff_congr rfl rfl rfl

theorem State.killTested_chan (c : Chan) :
    (u.killTested l ack).chan c = if c ∈ l then (u.settle c).chan c else u.chan c := by
  have same : (u.killNoted ack).chan c = u.chan c := by rw [State.killNoted_eq]; rfl
  have settled := State.settle_chan_congr same (by rw [State.killNoted_eq]) (by rw [State.killNoted_eq])
  rw [← same, ← settled, ← State.foldl_settle_chan]
  rw [State.killTested, State.endResetting_eq]
  rfl

theorem State.killTested_tc :
    ((∀ c ∈ l, ¬ TurnsOff u c) → (u.killTested l ack).tc = u.tc) ∧
      ((∃ c ∈ l, TurnsOff u c) → Dropped u.tc (u.killTested l ack).tc fun e => e.chan ∈ l ∧ TurnsOff u e.chan) := by
  have tested := State.foldl_settle_tc l (u.killNoted ack)
  have tc : (u.killNoted ack).tc = u.tc := by rw [State.killNoted_eq]
  simp only [State.killNoted_turnsOff_iff, tc] at tested
  simpa only [State.killTested, State.endResetting_frame] using tested

theorem State.killTested_ints :
    (∀ c : Chan, (u.killTested l ack).ints.channelOff.getLsbD c.val = true ↔
        u.ints.channelOff.getLsbD c.val = true ∨ (c ∈ l ∧ TurnsOff u c)) ∧
      (u.killTested l ack).ints =
        { u.ints with
          coherence := u.ints.coherence || decide (ack = .busError)
          channelOff := (u.killTested l ack).ints.channelOff } := by
  obtain ⟨off, rest⟩ := State.foldl_settle_ints l (u.killNoted ack)
  have ints : (u.killNoted ack).ints =
      { u.ints with coherence := u.ints.coherence || decide (ack = .busError) } := by rw [State.killNoted_eq]
  simp only [State.killNoted_turnsOff_iff, ints] at off rest
  simp only [State.killTested, State.endResetting_frame]
  exact ⟨off, rest⟩

theorem State.killTested_sticky :
    (u.killTested l ack).sticky = if ack = .busError then { u.sticky with killFail := true } else u.sticky := by
  rw [State.killTested, State.endResetting_eq, State.foldl_settle_eq l (u.killNoted ack), State.killNoted_eq]

theorem State.killTested_eq :
    let t := u.killTested l ack
    t = { u with bridge := t.bridge, chans := t.chans, tc := t.tc, sticky := t.sticky, ints := t.ints } := by
  intro t
  have noted := State.killNoted_eq u ack
  have tested := State.foldl_settle_eq l (u.killNoted ack)
  have ended : t = { l.foldl State.settle (u.killNoted ack) with bridge := t.bridge } := State.endResetting_eq _
  generalize l.foldl State.settle (u.killNoted ack) = v at tested ended
  rw [noted] at tested
  rw [ended, tested]

end

theorem State.grantPlace_of_none {s : State} (h : s.inv.waiters = []) : s.grantPlace = s := by
  simp only [State.grantPlace, h]

/-- R125: a grant changes of a channel its reservation alone. -/
theorem State.grantPlace_chan (s : State) (c : Chan) :
    s.grantPlace.chan c =
      { s.chan c with
        buffer := { (s.chan c).buffer with reservation := (s.grantPlace.chan c).buffer.reservation } } := by
  obtain ⟨h, -⟩ | ⟨d, rest, -, -, h⟩ := s.grantPlace_cases
  · rw [h]
  · rw [h, State.chan_setBuffer]
    split
    · next hd => subst hd; rfl
    · rfl

/-- R71: no abort ends that had not ended before the place was handed on. -/
theorem State.killRemoved_not_abortEnds {s : State} (settled : SettledLaw s) (id : Nat) (rest : List InvEntry) (c : Chan) :
    ¬ AbortEnds (s.killRemoved id rest) c := by
  rintro ⟨aborting, slot, reads, writing⟩
  have walk : (s.killRemoved id rest).walk = s.walk := by simp [State.killRemoved]
  have channel := State.grantPlace_chan { s.freeRecord id with inv := { s.inv with entries := rest } } c
  change (s.killRemoved id rest).chan c = _ at channel
  rw [channel] at aborting reads writing
  have ready := (s.abortReady_iff c).mpr ⟨by simpa only [State.inSlot, walk] using slot, reads, writing⟩
  rw [(settled c).2.2 aborting] at ready
  cases ready

theorem State.killTested_bridge {u : State} (running : u.bridge = .running) (l : List Chan) (ack : Ack) :
    (u.killTested l ack).bridge = .running := by
  have still : (l.foldl State.settle (u.killNoted ack)).bridge = .running := by
    rw [State.foldl_settle_eq l (u.killNoted ack), State.killNoted_eq]
    exact running
  rw [State.killTested, State.endResetting_of_running still]
  exact still

/-- Settles O33: the head is removed and its place handed on; the channels of its set are then tested in turn. -/
theorem killAcknowledged : Obligations.KillAcknowledged := by
  refine ⟨fun id e rest ack s released running hrec entries issued waiters => ?_,
    fun id e rest ack s released places settled hrec entries issued => ?_⟩
  · have removed : s.killRemoved id rest = { s.freeRecord id with inv := { entries := rest, waiters := [] } } := by
      rw [← waiters]
      exact State.grantPlace_of_none waiters
    have hexec := exec_killAcknowledge_of_record released hrec entries issued ack
    rw [removed] at hexec
    generalize hu : ({ s.freeRecord id with inv := { entries := rest, waiters := [] } } : State) = u at hexec
    have chan := u.killTested_chan e.chans ack
    have same (c : Chan) : u.chan c = s.chan c := by rw [← hu]; rfl
    have frame := u.killTested_eq e.chans ack
    have bridge := State.killTested_bridge (u := u) (by rw [← hu]; exact running) e.chans ack
    obtain ⟨-, ints⟩ := u.killTested_ints e.chans ack
    have sticky := u.killTested_sticky e.chans ack
    generalize u.killTested e.chans ack = t at hexec chan frame bridge ints sticky
    have inv : u.inv = { entries := rest, waiters := [] } := by rw [← hu]
    have tested (c : Chan) := u.settle_tested c
    refine ⟨t, hexec, ?_, ?_, ?_, fun c hc x hx sync empty free unnamed => ?_, fun c hc x hx sync named => ?_,
      fun c hc => ?_, fun c => ?_, ?_⟩
    · rw [frame]; exact inv
    · rw [sticky, ← hu]; rfl
    · rw [ints, ← hu]; rfl
    · obtain ⟨⟨ended, -⟩, -⟩ := tested c
      rw [chan, if_pos hc]
      rw [← same] at hx empty free ⊢
      exact ended x hx ⟨⟨x, hx, sync⟩, empty, free, by rw [inv]; exact unnamed⟩
    · obtain ⟨⟨-, kept⟩, -⟩ := tested c
      rw [chan, if_pos hc, ← hx, ← same]
      refine kept ?_
      rintro ⟨-, -, -, unnamed⟩
      obtain ⟨f, hf, hcf⟩ := named
      rw [inv] at unnamed
      exact unnamed f hf hcf
    · rw [chan, if_neg hc, same]
    · rw [chan, ← same]
      split
      · obtain ⟨-, -, -, channel, -⟩ := tested c
        rw [channel]
      · rfl
    · have inv' : t.inv = { entries := rest, waiters := [] } := by rw [frame]; exact inv
      rw [← running] at bridge
      refine frame.trans ?_
      rw [bridge, inv', ← hu]
      rfl
  · have freed : PlaceFreed { s.freeRecord id with inv := { s.inv with entries := rest } } (s.killRemoved id rest) := by
      refine State.grantPlace_freed fun _ => ?_
      have count : s.placesInUse = s.inv.entries.length + s.reservations := rfl
      have fewer : ({ s.freeRecord id with inv := { s.inv with entries := rest } } : State).placesInUse =
          rest.length + s.reservations := rfl
      rw [PlacesLaw, count, entries, List.length_cons] at places
      omega
    have turns (c : Chan) : TurnsOff (s.killRemoved id rest) c ↔ DrainEnds (s.killRemoved id rest) c :=
      or_iff_left (State.killRemoved_not_abortEnds settled id rest c)
    have tc : (s.killRemoved id rest).tc = s.tc := by simp [State.killRemoved]
    have same : (s.killRemoved id rest).ints = s.ints := by simp [State.killRemoved]
    have flags : (s.killRemoved id rest).sticky = s.sticky := by simp [State.killRemoved]
    have hexec := exec_killAcknowledge_of_record released hrec entries issued ack
    generalize s.killRemoved id rest = u at freed turns tc same flags hexec
    have chan := u.killTested_chan e.chans ack
    have frame := u.killTested_eq e.chans ack
    obtain ⟨kept, dropped⟩ := u.killTested_tc e.chans ack
    obtain ⟨off, ints⟩ := u.killTested_ints e.chans ack
    have sticky := u.killTested_sticky e.chans ack
    generalize u.killTested e.chans ack = t at hexec chan frame kept dropped off ints sticky
    simp only [turns, tc] at kept dropped
    simp only [turns, same] at off
    rw [same] at ints
    rw [flags] at sticky
    refine ⟨u, t, hexec, freed, fun c hc => ?_, fun c hc => by rw [chan, if_neg hc], dropped, kept, off, ints, sticky, frame⟩
    have settledChan : t.chan c = (u.settle c).chan c := by rw [chan, if_pos hc]
    obtain ⟨sync, disables, stays, channel, -⟩ := u.settle_tested c
    simp only [SyncTested, settledChan]
    exact ⟨sync, fun h => (disables ((turns c).mpr h)).1, fun h => (stays (mt (turns c).mp h)).1, channel⟩

end Sys2Proof.Machine
end

section
/-!
SUPPORT. CH_ABORT as a whole (R54, R70, R71, R91, R99, R125): the transaction stopped and the walk withdrawn, the buffer
discarded and its place handed on, the channel ABORTING, and its conditions tested; O14.
-/

namespace Sys2Proof.Machine

/-! ## The transaction is stopped -/

section
variable (s : State) (c : Chan)

theorem State.stopTransaction_of_none {s : State} {c : Chan} (txn : (s.chan c).txn = none) : s.stopTransaction c = s := by
  simp only [State.stopTransaction, txn]

theorem State.stopTransaction_of_waitWalk {s : State} {c : Chan} {x : Transaction} (hx : (s.chan c).txn = some x)
    (phase : x.phase = .waitWalk) : s.stopTransaction c = (s.abortWalk c).answer c .stopped := by
  simp only [State.stopTransaction, hx, phase]

theorem State.stopTransaction_of_phase {s : State} {c : Chan} {x : Transaction} (hx : (s.chan c).txn = some x)
    (phase : x.phase ≠ .waitWalk) : s.stopTransaction c = s.answer c .stopped := by
  cases h : x.phase <;> simp_all [State.stopTransaction]

/-- R70: the transaction, if there is one, is answered STOPPED. -/
theorem State.stopTransaction_self :
    (s.stopTransaction c).chan c =
      { s.chan c with
        txn := none
        answers := if (s.chan c).txn = none then (s.chan c).answers else (s.chan c).answers ++ [.stopped] } := by
  cases hx : (s.chan c).txn with
  | none =>
    rw [State.stopTransaction_of_none hx]
    simp [← hx]
  | some x =>
    by_cases phase : x.phase = .waitWalk
    · simp [State.stopTransaction_of_waitWalk hx phase, State.abortWalk_chan]
    · simp [State.stopTransaction_of_phase hx phase]

theorem State.stopTransaction_chan_ne {d : Chan} (hd : d ≠ c) : (s.stopTransaction c).chan d = s.chan d := by
  cases hx : (s.chan c).txn with
  | none => rw [State.stopTransaction_of_none hx]
  | some x =>
    by_cases phase : x.phase = .waitWalk
    · simp [State.stopTransaction_of_waitWalk hx phase, State.chan_answer, Ne.symm hd, State.abortWalk_chan]
    · simp [State.stopTransaction_of_phase hx phase, State.chan_answer, Ne.symm hd]

theorem State.abortWalk_eq : s.abortWalk c = { s with walk := (s.abortWalk c).walk } := by
  obtain ⟨-, eq⟩ | ⟨i, v, -, -, ⟨-, eq⟩ | ⟨-, eq⟩⟩ := s.abortWalk_cases c
  · rw [eq]
  · rw [eq]
  · rw [eq, State.freeSlot_eq]

theorem State.stopTransaction_eq :
    s.stopTransaction c = { s with chans := (s.stopTransaction c).chans, walk := (s.stopTransaction c).walk } := by
  cases hx : (s.chan c).txn with
  | none => rw [State.stopTransaction_of_none hx]
  | some x =>
    by_cases phase : x.phase = .waitWalk
    · rw [State.stopTransaction_of_waitWalk hx phase, State.abortWalk_eq]
      rfl
    · rw [State.stopTransaction_of_phase hx phase]
      rfl

/-- R122: a transaction that is stopped holds no place. -/
theorem State.placesInUse_stopTransaction : (s.stopTransaction c).placesInUse = s.placesInUse := by
  refine State.placesInUse_congr (by simp) fun d => ?_
  by_cases hd : d = c
  · subst hd; rw [State.stopTransaction_self]
  · rw [State.stopTransaction_chan_ne s c hd]

end

/-! ## The buffer is discarded -/

theorem BufState.kept_of_not_discarded {b : BufState} (h : ¬ (b = .filling ∨ b = .pending)) : b = .empty ∨ b = .writing := by
  cases b <;> simp_all

section
variable {s : State} {c : Chan}

theorem State.discardBuffer_of_kept (kept : (s.chan c).buffer.state = .empty ∨ (s.chan c).buffer.state = .writing) :
    s.discardBuffer c = s := by
  rcases kept with h | h <;> simp only [State.discardBuffer, h]

/-- R91: the buffer EMPTY, its channel off the waiters, and its place, if it held one, still to be handed on. -/
def State.bufferDropped (s : State) (c : Chan) : State :=
  ({ s with inv := { s.inv with waiters := s.inv.waiters.filter fun d => d ≠ c } } : State).setBuffer c Buffer.cleared

theorem State.discardBuffer_of_discarded
    (discarded : (s.chan c).buffer.state = .filling ∨ (s.chan c).buffer.state = .pending) :
    s.discardBuffer c =
      if (s.chan c).buffer.reservation = .held then (s.bufferDropped c).grantPlace else s.bufferDropped c := by
  rcases discarded with h | h <;> simp only [State.discardBuffer, h] <;> rfl

theorem State.bufferDropped_chan_ne {d : Chan} (hd : d ≠ c) : (s.bufferDropped c).chan d = s.chan d :=
  State.chan_modChan_ne _ (Ne.symm hd) _

/-- R122, R125: the place of the discarded buffer is free. -/
theorem State.placesInUse_bufferDropped (held : (s.chan c).buffer.reservation = .held) :
    (s.bufferDropped c).placesInUse + 1 = s.placesInUse := by
  have none : Buffer.cleared.reservation ≠ .held := nofun
  have count : (s.bufferDropped c).reservations + 1 = s.reservations + 0 := by
    have replaced := State.reservations_setChan s c { s.chan c with buffer := Buffer.cleared }
    rw [if_pos held, if_neg none] at replaced
    exact replaced
  have entries : (s.bufferDropped c).inv.entries = s.inv.entries := rfl
  simp only [State.placesInUse, entries]
  omega

/-- R125: what the discard of channel `c`'s buffer makes of the waiters and the other channels: the place it held goes to
the head waiter, or is free. -/
def BufferDiscarded (s t : State) (c : Chan) : Prop :=
  let others := s.inv.waiters.filter fun d => d ≠ c
  c ∉ t.inv.waiters ∧
    (∀ d rest, (s.chan c).buffer.reservation = .held → PlacesLaw s → others = d :: rest →
      t.inv.waiters = rest ∧
        t.chan d = { s.chan d with buffer := { (s.chan d).buffer with reservation := .held } } ∧
        (∀ e, e ≠ c → e ≠ d → t.chan e = s.chan e)) ∧
    ((s.chan c).buffer.reservation ≠ .held ∨ others = [] →
      t.inv.waiters = others ∧ (∀ d, d ≠ c → t.chan d = s.chan d))

theorem BufferDiscarded.congr {s' t t' : State} (h : BufferDiscarded s t c) (inv : s'.inv = s.inv)
    (reservation : (s'.chan c).buffer.reservation = (s.chan c).buffer.reservation)
    (places : s'.placesInUse = s.placesInUse) (chan : ∀ d, d ≠ c → s'.chan d = s.chan d)
    (waiters : t'.inv.waiters = t.inv.waiters) (chan' : ∀ d, d ≠ c → t'.chan d = t.chan d) : BufferDiscarded s' t' c := by
  obtain ⟨absent, handed, left⟩ := h
  simp only [BufferDiscarded, inv, reservation, PlacesLaw, places, waiters]
  refine ⟨absent, fun d rest held law head => ?_, fun free => ?_⟩
  · have mem : d ∈ s.inv.waiters.filter fun d => d ≠ c := by rw [head]; exact List.mem_cons_self
    have hd : d ≠ c := by simpa using (List.mem_filter.mp mem).2
    obtain ⟨rest', granted, kept⟩ := handed d rest held law head
    rw [chan' d hd, chan d hd]
    exact ⟨rest', granted, fun e he hne => by rw [chan' e he, chan e he]; exact kept e he hne⟩
  · obtain ⟨same, kept⟩ := left free
    exact ⟨same, fun d hd => by rw [chan' d hd, chan d hd]; exact kept d hd⟩

theorem State.discardBuffer_waiters
    (discarded : (s.chan c).buffer.state = .filling ∨ (s.chan c).buffer.state = .pending) :
    BufferDiscarded s (s.discardBuffer c) c := by
  unfold BufferDiscarded
  intro others
  have waiters : (s.bufferDropped c).inv.waiters = others := rfl
  have absent : c ∉ others := by simp [others]
  have dropped := State.discardBuffer_of_discarded discarded
  refine ⟨?_, fun d rest held places head => ?_, fun h => ?_⟩
  · rw [dropped]
    split
    · obtain ⟨same, -⟩ | ⟨d, rest, listed, -, granted⟩ := (s.bufferDropped c).grantPlace_cases
      · rw [same]; exact absent
      · rw [granted]
        rw [waiters] at listed
        rw [listed] at absent
        exact fun h => absent (List.mem_cons_of_mem d h)
    · exact absent
  · have room : (s.bufferDropped c).placesInUse < 8 := by
      have one := State.placesInUse_bufferDropped held
      have law : s.placesInUse ≤ 8 := places
      omega
    have freed := State.grantPlace_freed (s := s.bufferDropped c) fun _ => room
    have mem : d ∈ others := by rw [head]; exact List.mem_cons_self
    have hd : d ≠ c := fun e => absent (e ▸ mem)
    have result : s.discardBuffer c = (s.bufferDropped c).grantPlace := dropped.trans (if_pos held)
    rw [← result] at freed
    simp only [PlaceFreed, waiters, head] at freed
    obtain ⟨granted, kept, frame⟩ := freed
    rw [State.bufferDropped_chan_ne hd] at granted
    exact ⟨by rw [frame], granted, fun e hc he => (kept e he).trans (State.bufferDropped_chan_ne hc)⟩
  · have result : s.discardBuffer c = s.bufferDropped c := by
      refine dropped.trans ?_
      split
      · next held =>
        refine State.grantPlace_of_none (waiters.trans ?_)
        exact h.resolve_left fun free => free held
      · rfl
    rw [result]
    exact ⟨rfl, fun d hd => State.bufferDropped_chan_ne hd⟩

theorem State.discardBuffer_chan_ne {d : Chan} (hd : d ≠ c) :
    (s.discardBuffer c).chan d =
      { s.chan d with
        buffer := { (s.chan d).buffer with reservation := ((s.discardBuffer c).chan d).buffer.reservation } } := by
  have dropped := State.bufferDropped_chan_ne (s := s) hd
  by_cases discarded : (s.chan c).buffer.state = .filling ∨ (s.chan c).buffer.state = .pending
  · rw [State.discardBuffer_of_discarded discarded]
    split
    · have granted := (s.bufferDropped c).grantPlace_chan d
      rw [dropped] at granted
      exact granted
    · rw [dropped]
  · rw [State.discardBuffer_of_kept (BufState.kept_of_not_discarded discarded)]

theorem State.discardBuffer_entries : (s.discardBuffer c).inv.entries = s.inv.entries := by
  by_cases discarded : (s.chan c).buffer.state = .filling ∨ (s.chan c).buffer.state = .pending
  · rw [State.discardBuffer_of_discarded discarded]
    split
    · rw [State.grantPlace_entries]; rfl
    · rfl
  · rw [State.discardBuffer_of_kept (BufState.kept_of_not_discarded discarded)]

end

/-! ## The channel is aborted -/

/-- R70: the channel ABORTING with its work withdrawn, before its conditions are tested. -/
def State.startAbort (s : State) (c : Chan) : State :=
  ((s.stopTransaction c).discardBuffer c).modChan c fun ch =>
    { ch with state := .aborting, readAhead := none, lineRead := ch.lineRead.bind LineRead.aborted }

theorem State.abortChannel_of_running {s : State} {c : Chan} (running : (s.chan c).Running) :
    s.abortChannel c = ((s.startAbort c).settle c, .ok) := by
  rcases running with h | h | h <;> simp only [State.abortChannel, h] <;> rfl

theorem State.abortChannel_of_off {s : State} {c : Chan} (off : (s.chan c).state = .disabled ∨ (s.chan c).state = .aborting) :
    s.abortChannel c = (s, .ok) := by
  rcases off with h | h <;> simp only [State.abortChannel, h]

section
variable (s : State) (c : Chan)

theorem State.startAbort_chan_self :
    (s.startAbort c).chan c =
      { s.chan c with
        state := .aborting
        txn := none
        answers := if (s.chan c).txn = none then (s.chan c).answers else (s.chan c).answers ++ [.stopped]
        buffer :=
          if (s.chan c).buffer.state = .filling ∨ (s.chan c).buffer.state = .pending then Buffer.cleared
          else (s.chan c).buffer
        readAhead := none
        lineRead := (s.chan c).lineRead.bind LineRead.aborted } := by
  rw [State.startAbort, State.chan_modChan_self, State.discardBuffer_chan_self, State.stopTransaction_self]

theorem State.startAbort_chan_ne {d : Chan} (hd : d ≠ c) :
    (s.startAbort c).chan d = ((s.stopTransaction c).discardBuffer c).chan d :=
  State.chan_modChan_ne _ (Ne.symm hd) _

theorem State.startAbort_inv : (s.startAbort c).inv = ((s.stopTransaction c).discardBuffer c).inv := rfl

theorem State.startAbort_discarded {s : State} {c : Chan}
    (discarded : (s.chan c).buffer.state = .filling ∨ (s.chan c).buffer.state = .pending) :
    BufferDiscarded s (s.startAbort c) c := by
  have buffer : ((s.stopTransaction c).chan c).buffer = (s.chan c).buffer := by rw [State.stopTransaction_self]
  rw [← buffer] at discarded
  exact (State.discardBuffer_waiters discarded).congr (by simp) (by rw [buffer])
    (s.placesInUse_stopTransaction c).symm (fun d hd => (s.stopTransaction_chan_ne c hd).symm) rfl
    fun d hd => s.startAbort_chan_ne c hd

theorem State.startAbort_kept {s : State} {c : Chan}
    (kept : (s.chan c).buffer.state = .empty ∨ (s.chan c).buffer.state = .writing) :
    (s.startAbort c).inv = s.inv ∧ ∀ d, d ≠ c → (s.startAbort c).chan d = s.chan d := by
  have buffer : ((s.stopTransaction c).chan c).buffer = (s.chan c).buffer := by rw [State.stopTransaction_self]
  rw [← buffer] at kept
  have same := State.discardBuffer_of_kept kept
  refine ⟨?_, fun d hd => ?_⟩
  · rw [State.startAbort_inv, same]
    simp
  · rw [State.startAbort_chan_ne s c hd, same, State.stopTransaction_chan_ne s c hd]

theorem State.startAbort_reservation {d : Chan} (hd : d ≠ c) :
    (s.startAbort c).chan d =
      { s.chan d with
        buffer := { (s.chan d).buffer with reservation := ((s.startAbort c).chan d).buffer.reservation } } := by
  rw [State.startAbort_chan_ne s c hd, ← State.stopTransaction_chan_ne s c hd]
  exact State.discardBuffer_chan_ne hd

theorem State.startAbort_entries : (s.startAbort c).inv.entries = s.inv.entries := by
  rw [State.startAbort_inv, State.discardBuffer_entries]
  simp

theorem State.startAbort_walk : (s.startAbort c).walk = (s.stopTransaction c).walk := by
  simp [State.startAbort]

theorem State.discardBuffer_eq :
    s.discardBuffer c = { s with chans := (s.discardBuffer c).chans, inv := (s.discardBuffer c).inv } := by
  by_cases discarded : (s.chan c).buffer.state = .filling ∨ (s.chan c).buffer.state = .pending
  · rw [State.discardBuffer_of_discarded discarded]
    split
    · obtain ⟨same, -⟩ | ⟨d, rest, -, -, granted⟩ := (s.bufferDropped c).grantPlace_cases
      · rw [same]; rfl
      · rw [granted]; rfl
    · rfl
  · rw [State.discardBuffer_of_kept (BufState.kept_of_not_discarded discarded)]

theorem State.startAbort_eq :
    s.startAbort c =
      { s with chans := (s.startAbort c).chans, walk := (s.startAbort c).walk, inv := (s.startAbort c).inv } := by
  have discarded := State.discardBuffer_eq (s.stopTransaction c) c
  have stopped := s.stopTransaction_eq c
  simp only [State.startAbort]
  generalize (s.stopTransaction c).discardBuffer c = v at discarded ⊢
  generalize s.stopTransaction c = u at discarded stopped
  rw [discarded, stopped]
  rfl

/-- R54: with the transaction in WAIT_WALK the walk unit is what the withdrawal leaves. -/
theorem State.startAbort_walk_of_waitWalk {s : State} {c : Chan} {x : Transaction} (hx : (s.chan c).txn = some x)
    (phase : x.phase = .waitWalk) : (s.startAbort c).walk = (s.abortWalk c).walk := by
  rw [State.startAbort_walk, State.stopTransaction_of_waitWalk hx phase]
  rfl

theorem State.startAbort_walk_of_phase {s : State} {c : Chan} (phase : ∀ x, (s.chan c).txn = some x → x.phase ≠ .waitWalk) :
    (s.startAbort c).walk = s.walk := by
  rw [State.startAbort_walk]
  cases hx : (s.chan c).txn with
  | none => rw [State.stopTransaction_of_none hx]
  | some x =>
    rw [State.stopTransaction_of_phase hx (phase x hx)]
    rfl

theorem State.startAbort_not_syncEnds : ¬ SyncEnds (s.startAbort c) c := by
  rintro ⟨⟨x, hx, -⟩, -⟩
  rw [State.startAbort_chan_self] at hx
  cases hx

/-- R71: of the line reads an abort leaves only issued ones, so the condition asks for none. -/
theorem State.startAbort_turnsOff_iff :
    TurnsOff (s.startAbort c) c ↔
      (s.startAbort c).inSlot c = false ∧ ((s.startAbort c).chan c).lineRead = none ∧
        ((s.startAbort c).chan c).buffer.state ≠ .writing := by
  have aborting : ((s.startAbort c).chan c).state = .aborting := by rw [State.startAbort_chan_self]
  have reads : (∀ r, ((s.startAbort c).chan c).lineRead = some r → r.issued = false) ↔
      ((s.startAbort c).chan c).lineRead = none := by
    constructor
    · intro none
      cases hr : ((s.startAbort c).chan c).lineRead with
      | none => rfl
      | some r =>
        have unissued := none r hr
        rw [State.startAbort_chan_self] at hr
        obtain ⟨r', -, ha⟩ := Option.bind_eq_some_iff.mp hr
        obtain ⟨issued, rfl⟩ := LineRead.aborted_iff.mp ha
        rw [show r'.issued = false from unissued] at issued
        cases issued
    · intro none r hr
      rw [none] at hr
      cases hr
  simp only [TurnsOff, DrainEnds, AbortEnds, aborting, reads, reduceCtorEq, false_and, false_or, true_and]

end

/-- R49, R54: the walk of a channel that one slot holds. -/
theorem State.abortWalk_of_slot {s : State} {c : Chan} {i : Fin 2} {w : Walk} (hw : s.walk.slots[i] = some w)
    (hc : w.chan = c) (only : ∀ (j : Fin 2) v, s.walk.slots[j] = some v → v.chan = c → j = i) :
    (w.issued = true → (s.abortWalk c).walk =
        { s.walk.withoutPlaces c with slots := s.walk.slots.set i (some { w with discard := true }) }) ∧
      (w.issued = false → SlotFreed { s with walk := { s.walk.withoutPlaces c with
          requests := s.walk.requests.filter fun j => j ≠ i } } (s.abortWalk c) i) := by
  obtain ⟨absent, -⟩ | ⟨j, v, hv, hvc, cases⟩ := s.abortWalk_cases c
  · exact absurd hc (absent i w hw)
  · obtain rfl := only j v hv hvc
    obtain rfl : v = w := Option.some.inj (hv.symm.trans hw)
    rcases cases with ⟨issued, eq⟩ | ⟨unissued, eq⟩
    · rw [eq]
      exact ⟨fun _ => rfl, fun h => by rw [issued] at h; cases h⟩
    · refine ⟨fun h => ?_, fun _ => ?_⟩
      · rw [unissued] at h; cases h
      · rw [eq]
        exact State.freeSlot_freed ..

theorem State.abortWalk_of_not_inSlot {s : State} {c : Chan} (h : s.inSlot c = false) :
    (s.abortWalk c).walk = s.walk.withoutPlaces c := by
  obtain ⟨-, eq⟩ | ⟨i, v, hv, hc, -⟩ := s.abortWalk_cases c
  · rw [eq]
  · exact absurd hc ((s.inSlot_eq_false_iff c).mp h i v hv)

theorem SlotFreed.of_walk {s t t' : State} {i : Fin 2} (h : SlotFreed s t i) (walk : t'.walk = t.walk) : SlotFreed s t' i := by
  unfold SlotFreed
  rw [walk]
  exact h

/-- Settles O14: what each stage of the abort leaves, and the abort condition, which the line reads left make exact. -/
theorem chAbort : Obligations.ChAbort := by
  intro c operand page s ready hc
  have hexec : exec (.chAbort operand page) s =
      .next ((s.abortChannel c).1.completeCommand .chAbort operand page (s.abortChannel c).2) := by
    rw [exec_chAbort, State.channelCommand_of_ready ready hc rfl, State.dispatchCommand, chanOfOperand_eq hc]
  refine ⟨fun running => ?_, fun off => by rw [hexec, State.abortChannel_of_off off]⟩
  rw [hexec, State.abortChannel_of_running running]
  have self := s.startAbort_chan_self c
  have walkOther := State.startAbort_walk_of_phase (s := s) (c := c)
  have walkWait := fun x hx phase => State.startAbort_walk_of_waitWalk (s := s) (c := c) (x := x) hx phase
  have turns := s.startAbort_turnsOff_iff c
  have frame := s.startAbort_eq c
  have noSync := s.startAbort_not_syncEnds c
  have discards := State.startAbort_discarded (s := s) (c := c)
  have keeps := State.startAbort_kept (s := s) (c := c)
  have others := fun d hd => s.startAbort_reservation c (d := d) hd
  have entries := s.startAbort_entries c
  have tested := (s.startAbort c).settle_tested c
  generalize s.startAbort c = u at self walkOther walkWait turns frame noSync discards keeps others entries tested ⊢
  generalize u.settle c = v at tested ⊢
  obtain ⟨⟨-, keptSync⟩, disables, stays, channel, same, frame'⟩ := tested
  obtain ⟨txn, answers⟩ := keptSync noSync
  have inv : v.inv = u.inv := by rw [frame']
  have walk : v.walk = u.walk := by rw [frame']
  have inSlot : v.inSlot c = u.inSlot c := by simp only [State.inSlot, walk]
  rw [txn, answers] at channel
  have lineRead : (v.chan c).lineRead = (u.chan c).lineRead := by rw [channel]
  have buffer : (v.chan c).buffer = (u.chan c).buffer := by rw [channel]
  rw [← inSlot, ← lineRead, ← buffer] at turns
  have aborting : (u.chan c).state = .aborting := by rw [self]
  have tc : u.tc = s.tc := by rw [frame]
  have ints : u.ints = s.ints := by rw [frame]
  have leaves : (v.chan c).txn = none ∧
      (v.chan c).answers =
        (if (s.chan c).txn = none then (s.chan c).answers else (s.chan c).answers ++ [.stopped]) ∧
      (v.chan c).buffer =
        (if (s.chan c).buffer.state = .filling ∨ (s.chan c).buffer.state = .pending then Buffer.cleared
          else (s.chan c).buffer) ∧
      (v.chan c).readAhead = none ∧ (v.chan c).lineRead = (s.chan c).lineRead.bind LineRead.aborted ∧
      (v.chan c).desc = (s.chan c).desc ∧ (v.chan c).held = (s.chan c).held := by
    rw [channel, self]
    exact ⟨rfl, rfl, rfl, rfl, rfl, rfl, rfl⟩
  obtain ⟨stopped, answered, left, readAhead, reads, desc, held⟩ := leaves
  have withdrawn : ∀ x, (s.chan c).txn = some x → x.phase = .waitWalk → v.walk = (s.abortWalk c).walk :=
    fun x hx phase => walk.trans (walkWait x hx phase)
  refine ⟨v.completeCommand .chAbort operand page .ok, rfl, rfl, stopped, answered,
    fun phase => walk.trans (walkOther phase), fun x hx phase =>
      ⟨fun absent => (withdrawn x hx phase).trans (State.abortWalk_of_not_inSlot absent), fun i w hw hc only =>
        ⟨fun issued => (withdrawn x hx phase).trans ((State.abortWalk_of_slot hw hc only).1 issued), fun unissued => ?_⟩⟩,
    fun kept => ?_, fun discarded => ?_, fun idle => ?_, fun discarded => ?_, fun kept => ?_, readAhead, ?_, desc, held,
    (congrArg InvQueue.entries inv).trans entries, ?_, fun d hd => ?_, ?_⟩
  · exact ((State.abortWalk_of_slot hw hc only).2 unissued).of_walk (withdrawn x hx phase)
  · refine left.trans (if_neg ?_)
    rcases kept with h | h <;> simp [h]
  · exact left.trans (if_pos discarded)
  · change (v.chan c).buffer.state = .empty
    rw [left]
    split
    · rfl
    · next neither =>
      rw [not_or] at neither
      cases h : (s.chan c).buffer.state with
      | empty => rfl
      | filling => exact absurd h neither.1
      | pending => exact absurd h neither.2
      | writing => exact absurd h idle
  · exact (discards discarded).congr rfl rfl rfl (fun _ _ => rfl) (congrArg InvQueue.waiters inv) same
  · obtain ⟨sameInv, sameChan⟩ := keeps kept
    exact ⟨inv.trans sameInv, fun d hd => (same d hd).trans (sameChan d hd)⟩
  · refine reads.trans ?_
    cases (s.chan c).lineRead <;> rfl
  · split
    · next off =>
      obtain ⟨state, dropped, raised⟩ := disables (turns.mpr off)
      exact ⟨state, tc ▸ dropped, by rw [← ints]; exact congrArg (fun x => { x with cmdDone := true }) raised⟩
    · next stands =>
      obtain ⟨state, sameTc, sameInts⟩ := stays (mt turns.mp stands)
      exact ⟨state.trans aborting, sameTc.trans tc, congrArg (fun x => { x with cmdDone := true }) (sameInts.trans ints)⟩
  · have reserved := others d hd
    rw [← same d hd] at reserved
    exact reserved
  · rw [frame', frame]
    rfl

end Sys2Proof.Machine
end

section
/-!
SUPPORT. Walk reads that install nothing (R45, R47 to R49, R52): an invalid word and a bus error, which fault, and the
read of a stale slot, which is made again; O24.
-/

namespace Sys2Proof.Machine

/-- R47, R48: the fault of a walk read that brings no valid word back. -/
def walkFaultCause : WalkResult → Cause
  | .word _ => .notValid
  | .busError => .mapBusErr

theorem mapEntry_of_invalid {word : Word} (h : word.getLsbD 0 = false) : mapEntry word = none := by
  rw [mapEntry, h]
  rfl

section
variable {s : State} {i : Fin 2} {w : Walk}

/-- R47 to R49: a walk read that brings no valid word back frees its slot and fails its transaction. -/
theorem State.walkReturn_of_invalid (hw : s.walk.slots[i] = some w) (issued : w.issued = true) (kept : w.discard = false)
    (fresh : w.stale = false) {result : WalkResult} (invalid : ∀ word, result = .word word → word.getLsbD 0 = false) :
    s.walkReturn i result = ((s.freeSlot i).failWalk w.chan (walkFaultCause result)).settle w.chan := by
  cases result with
  | busError => simp [State.walkReturn, hw, issued, kept, fresh, walkFaultCause]
  | word word =>
    simp [State.walkReturn, hw, issued, kept, fresh, walkFaultCause, mapEntry_of_invalid (invalid word rfl)]

/-- R45, R52: the read of a stale slot is requested again, whatever it brought back. -/
theorem State.walkReturn_of_stale (hw : s.walk.slots[i] = some w) (issued : w.issued = true) (kept : w.discard = false)
    (stale : w.stale = true) (result : WalkResult) :
    s.walkReturn i result =
      { s with
        walk :=
          { s.walk with
            slots := s.walk.slots.set i (some { w with issued := false, stale := false })
            requests := s.walk.requests ++ [i] } } := by
  simp [State.walkReturn, hw, issued, kept, stale, WalkUnit.modSlot]

end

/-- R47, R48: only a READ or a WRITE has a walk, and it takes the fault. -/
theorem State.failWalk_of_access {s : State} {c : Chan} {x : Transaction} {access : Access} {addr : ChanAddr} {size : Size}
    (hx : (s.chan c).txn = some x) (ha : x.request.access? = some (access, addr, size)) (cause : Cause) :
    s.failWalk c cause = s.failTransaction c access addr cause .fault := by
  simp only [State.failWalk, hx, ha]

/-- Settles O24: the slot freed, the fault taken and the conditions tested, in order; or the read requested again. -/
theorem walkFaultsOrReReads : Obligations.WalkFaultsOrReReads := by
  refine ⟨fun id i w result x access addr size s released running hrec hw issued kept fresh invalid hx ha => ?_,
    fun id i w result s released running hrec hw issued kept stale => ?_⟩
  · have hexec := exec_walkDataReturn_of_record released running hrec result
    rw [State.walkReturn_of_invalid (s := s.freeRecord id) hw issued kept fresh invalid] at hexec
    have freed := (s.freeRecord id).freeSlot_freed i
    have slot := (s.freeRecord id).freeSlot_eq i
    generalize (s.freeRecord id).freeSlot i = v at freed slot hexec
    have same : v.chans = s.chans := by rw [slot]; rfl
    have chan := State.chan_of_chans same
    rw [State.failWalk_of_access (by rw [chan, hx]) ha] at hexec
    have taken := v.failTransaction_taken w.chan access addr (walkFaultCause result) .fault
    generalize v.failTransaction w.chan access addr (walkFaultCause result) .fault = u at taken hexec
    have served := taken.served x.request
    have tested := u.settle_tested w.chan
    have walk : (u.settle w.chan).walk = v.walk := by rw [tested.walk_eq, served.rest]
    have before : { s.freeRecord id with walk := (u.settle w.chan).walk } = v := by rw [walk, slot]
    refine ⟨u, u.settle w.chan, hexec, freed.congr rfl rfl walk, ?_, tested, ?_⟩
    · rw [before]
      cases result <;> exact taken
    · rw [← chan]
      exact served.settle_eq (Request.ne_sync_of_access ha)
  · rw [exec_walkDataReturn_of_record released running hrec,
      State.walkReturn_of_stale (s := s.freeRecord id) hw issued kept stale]
    rfl

end Sys2Proof.Machine
end

section
/-!
SUPPORT. The data return of a discarded walk or line read (R55, R71, R96): nothing of it is used, and the channel's abort
condition is tested; O25.
-/

namespace Sys2Proof.Machine

/-- R71, R146: what is left of a completion that is set aside: the test of the channel's conditions, and the bus master's
report. -/
def State.setAside (s : State) (c : Chan) : State := (s.settle c).endResetting

section
variable {s : State} {c : Chan}

theorem State.setAside_eq (s : State) (c : Chan) :
    let t := s.setAside c
    t = { s with chans := t.chans, tc := t.tc, ints := t.ints, bridge := t.bridge } := by
  intro t
  have ended : t = { s.settle c with bridge := t.bridge } := State.endResetting_eq _
  have tested := s.settle_eq_with c
  generalize s.settle c = u at ended tested
  rw [ended, tested]

/-- The report of the bus master changes no channel. -/
theorem State.setAside_chan (s : State) (c d : Chan) : (s.setAside c).chan d = (s.settle c).chan d := by
  rw [State.setAside, State.endResetting_eq]
  rfl

theorem State.setAside_chan_ne {d : Chan} (hd : d ≠ c) : (s.setAside c).chan d = s.chan d := by
  rw [State.setAside_chan, State.settle_chan_ne s c hd]

/-- R63: with no SYNC to answer, the test of the conditions changes of the channel at most its state. -/
theorem State.setAside_chan_self (sync : ¬ SyncEnds s c) :
    (s.setAside c).chan c = { s.chan c with state := ((s.setAside c).chan c).state } := by
  obtain ⟨⟨-, keptSync⟩, -, -, channel, -⟩ := s.settle_tested c
  obtain ⟨txn, answers⟩ := keptSync sync
  rw [State.setAside_chan]
  rw [txn, answers] at channel
  exact channel

/-- R71: for a channel that does not drain, the test of the conditions is the test of its abort. -/
theorem State.setAside_abortTested (sync : ¬ SyncEnds s c) (running : (s.chan c).state ≠ .draining) :
    AbortTested s (s.setAside c) c := by
  have channel := State.setAside_chan_self sync
  have slot : (s.setAside c).inSlot c = s.inSlot c := by rw [State.setAside_eq]; rfl
  have lineRead : ((s.setAside c).chan c).lineRead = (s.chan c).lineRead := by rw [channel]
  have buffer : ((s.setAside c).chan c).buffer = (s.chan c).buffer := by rw [channel]
  have reads : ((s.chan c).lineRead.all fun r => !r.issued) = true ↔
      ∀ r, (s.chan c).lineRead = some r → r.issued = false := by
    simp [Option.all_eq_true]
  have ends : DrainEnds s c ∨ AbortEnds s c ↔ AbortEnds s c := or_iff_right fun drain => running drain.1
  obtain ⟨-, disables, stays, -⟩ := s.settle_tested c
  rw [ends] at disables stays
  unfold AbortTested
  rw [slot, lineRead, buffer]
  simp only [reads, State.setAside_chan]
  simp only [State.setAside, State.endResetting_frame]
  split
  · next h => exact disables h
  · next h => exact stays h

/-- The test of an abort starts from the channel's state, the translation cache and the causes. -/
theorem AbortTested.congr {s' t : State} (h : AbortTested s t c) (state : (s'.chan c).state = (s.chan c).state)
    (tc : s'.tc = s.tc) (ints : s'.ints = s.ints) : AbortTested s' t c := by
  simp only [AbortTested, state, tc, ints]
  exact h

/-- R63: no SYNC ends in a state whose conditions have all been tested. -/
theorem SettledLaw.not_syncEnds (settled : SettledLaw s) (c : Chan) : ¬ SyncEnds s c := by
  rintro ⟨⟨x, hx, sync⟩, condition⟩
  have ready := (s.syncReady_iff c).mpr condition
  rw [(settled c).1 x hx sync] at ready
  cases ready

end

/-- R93, R96: the line read record of channel `c` is none. -/
def State.freeLineRead (s : State) (c : Chan) : State := s.modChan c fun ch => { ch with lineRead := none }

theorem State.freeLineRead_chan_self (s : State) (c : Chan) :
    (s.freeLineRead c).chan c = { s.chan c with lineRead := none } := State.chan_modChan_self ..

theorem State.freeLineRead_chan_ne (s : State) {c d : Chan} (hd : d ≠ c) : (s.freeLineRead c).chan d = s.chan d :=
  State.chan_modChan_ne _ (Ne.symm hd) _

theorem State.freeLineRead_eq (s : State) (c : Chan) :
    s.freeLineRead c = { s with chans := (s.freeLineRead c).chans } := rfl

section
variable {s : State} {id : Nat} (released : s.resetHeld = false)
include released

/-- R55, R49: the return of a discarded walk frees its slot. -/
theorem exec_walkDataReturn_of_discarded {i : Fin 2} {w : Walk}
    (hrec : s.bus.recordOf id = some { id, requester := .walk i }) (hw : s.walk.slots[i] = some w)
    (issued : w.issued = true) (discarded : w.discard = true) (result : WalkResult) :
    exec (.walkDataReturn id result) s = .next (((s.freeRecord id).freeSlot i).setAside w.chan) := by
  have slot : (s.freeRecord id).walk.slots[i] = some w := hw
  rw [exec_walkDataReturn, State.unlessReset_of_not_held released]
  simp only [State.complete, hrec, State.walkReturn, slot, issued, discarded, Bool.true_eq_false, if_true, if_false,
    State.setAside]

/-- R96: the return of a discarded line read frees the channel's record. -/
theorem exec_lineReadDataReturn_of_discarded {c : Chan} {r : LineRead}
    (hrec : s.bus.recordOf id = some { id, requester := .read c }) (hr : (s.chan c).lineRead = some r)
    (issued : r.issued = true) (discarded : r.discard = true) (result : LineResult) :
    exec (.lineReadDataReturn id result) s =
      .next (((s.freeRecord id).freeLineRead c).setAside c) := by
  have read : ((s.freeRecord id).chan c).lineRead = some r := hr
  rw [exec_lineReadDataReturn, State.unlessReset_of_not_held released]
  simp only [State.complete, hrec, State.lineReadReturn, read, issued, discarded, Bool.true_eq_false, if_true, if_false,
    State.freeLineRead, State.setAside]

end

/-- Settles O25: the slot or the record frees, and of the conditions only the abort's can end. -/
theorem discardedReadSetAside : Obligations.DiscardedReadSetAside := by
  intro id c s released settled running
  have sync := settled.not_syncEnds c
  refine ⟨fun i w result hrec hw hc issued discarded => ?_, fun r result hrec hr issued discarded => ?_⟩
  · have hexec := exec_walkDataReturn_of_discarded released hrec hw issued discarded result
    have freed := (s.freeRecord id).freeSlot_freed i
    have slot := (s.freeRecord id).freeSlot_eq i
    generalize (s.freeRecord id).freeSlot i = v at freed slot hexec
    have chan (d : Chan) : v.chan d = s.chan d := State.chan_of_chans (by rw [slot]; rfl) d
    have sync' : ¬ SyncEnds v c := mt (syncEnds_congr (chan c) (by rw [slot]; rfl)).mp sync
    have tested := State.setAside_abortTested sync' (by rw [chan]; exact running)
    have frame := v.setAside_eq c
    have walk : (v.setAside c).walk = v.walk := by rw [frame]
    refine ⟨v.setAside c, hc ▸ hexec, freed.congr rfl rfl walk,
      tested.congr (by rw [chan]) (by rw [slot]; rfl) (by rw [slot]; rfl), ?_, fun d hd => ?_, ?_⟩
    · rw [State.setAside_chan_self sync', chan]
    · rw [State.setAside_chan_ne hd, chan]
    · rw [walk]
      refine frame.trans ?_
      rw [slot]
  · have hexec := exec_lineReadDataReturn_of_discarded released hrec hr issued discarded result
    have self : ((s.freeRecord id).freeLineRead c).chan c = { s.chan c with lineRead := none } :=
      (s.freeRecord id).freeLineRead_chan_self c
    have others (d : Chan) (hd : d ≠ c) : ((s.freeRecord id).freeLineRead c).chan d = s.chan d :=
      (s.freeRecord id).freeLineRead_chan_ne hd
    have rest := (s.freeRecord id).freeLineRead_eq c
    generalize (s.freeRecord id).freeLineRead c = v at self others rest hexec
    have sync' : ¬ SyncEnds v c := by
      rintro ⟨request, condition⟩
      rw [self] at request
      rw [SyncCondition, self, rest] at condition
      exact sync ⟨request, condition⟩
    have tested := State.setAside_abortTested sync' (by rw [self]; exact running)
    refine ⟨v.setAside c, hexec, tested.congr (by rw [self]) (by rw [rest]; rfl) (by rw [rest]; rfl), ?_, fun d hd => ?_, ?_⟩
    · rw [State.setAside_chan_self sync', self]
    · rw [State.setAside_chan_ne hd, others d hd]
    · refine (v.setAside_eq c).trans ?_
      rw [rest]

end Sys2Proof.Machine
end

section
/-!
SUPPORT. The soft reset, block by block (R172 to R174); O44.
-/

namespace Sys2Proof.Machine

/-- R173: the blocks at a soft reset, with the command unit stopped, before the bus master's report (R174). -/
def State.resetBlocks (s : State) : State :=
  { s with
    bridge := .resetting
    chans := s.chans.map Channel.softReset
    tc := { s.tc.dropAll with lastServed := .commandUnit }
    walk := s.walk.softReset
    inv := { s.inv with waiters := [] }
    bus := { s.bus with writeLast := 7, readLast := 7 }
    log := { s.log with records := [] }
    ints := { s.ints with channelOff := 0 } }

theorem State.softReset_of_resetting {s : State} (h : s.bridge = .resetting) : s.softReset = s := by
  simp only [State.softReset, h]

theorem State.softReset_of_running {s : State} (h : s.bridge = .running) :
    s.softReset = s.stopCommand.resetBlocks.endResetting := by
  simp only [State.softReset, h]
  rfl

/-! ## The command unit (R172) -/

theorem State.stopCommand_of_idle {s : State} (h : s.cmd.busy = false) : s.stopCommand = s := by
  simp [State.stopCommand, h]

theorem State.stopCommand_of_busy {s : State} {n : CommandName} (busy : s.cmd.busy = true) (named : s.cmd.command = some n) :
    s.stopCommand =
      { s with
        cmd := { s.cmd with busy := false, outcome := .resetting }
        ints := { s.ints with cmdDone := true } } := by
  simp only [State.stopCommand, busy, named, if_true, State.completeCommand]

theorem State.stopCommand_eq (s : State) :
    s.stopCommand = { s with cmd := s.stopCommand.cmd, ints := s.stopCommand.ints } := by
  unfold State.stopCommand
  repeat' split
  all_goals rfl

/-! ## Channels and walks (R57, R79, R92, R99) -/

theorem Channel.softReset_eq (ch : Channel) :
    ch.softReset =
      { ch with
        state := .disabled
        txn := none
        answers := if ch.txn = none then ch.answers else ch.answers ++ [.stopped]
        buffer := if ch.buffer.state = .writing then ch.buffer else Buffer.cleared
        readAhead := none
        lineRead := ch.lineRead.bind LineRead.aborted } := by
  have answers : (if ch.txn.isSome = true then ch.answers ++ [.stopped] else ch.answers) =
      if ch.txn = none then ch.answers else ch.answers ++ [.stopped] := by
    cases ch.txn <;> rfl
  rw [Channel.softReset, answers]

/-- R57: a busy slot at a soft reset: discard-marked when issued, idle when not. -/
def Walk.aborted (w : Walk) : Option Walk := if w.issued = true then some { w with discard := true } else none

theorem WalkUnit.softReset_slots (w : WalkUnit) (i : Fin 2) : w.softReset.slots[i] = w.slots[i].bind Walk.aborted := by
  simp only [WalkUnit.softReset, Fin.getElem_fin, Vector.getElem_map]
  cases w.slots[i.val] with
  | none => rfl
  | some x => cases h : x.issued <;> simp [Walk.aborted, h]

/-! ## The bridge (R174) -/

theorem BusMaster.onlyKills_iff (b : BusMaster) : b.onlyKills = true ↔ ∀ k ∈ b.cycles, k.requester = .kill := by
  simp [BusMaster.onlyKills]

theorem State.endResetting_running_iff {s : State} (h : s.bridge = .resetting) :
    s.endResetting.bridge = .running ↔ ∀ k ∈ s.bus.cycles, k.requester = .kill := by
  rw [← BusMaster.onlyKills_iff]
  unfold State.endResetting
  split
  · next only => simp [only]
  · next other => simp [h, other]

/-- Settles O44: in RUNNING the command unit is stopped, each block reset, and the bus master reports. -/
theorem softReset : Obligations.SoftReset := by
  intro s released
  have hexec : exec .softReset s = .next s.softReset := by
    rw [exec_softReset, State.unlessReset_of_not_held released]
  refine ⟨fun resetting => by rw [hexec, State.softReset_of_resetting resetting], fun running => ?_⟩
  have stopped := s.stopCommand_eq
  have idle := State.stopCommand_of_idle (s := s)
  have busy := fun n hb hn => State.stopCommand_of_busy (s := s) (n := n) hb hn
  rw [hexec, State.softReset_of_running running]
  generalize s.stopCommand = u at stopped idle busy ⊢
  have frame := u.resetBlocks.endResetting_eq
  have report := State.endResetting_running_iff (s := u.resetBlocks) rfl
  generalize u.resetBlocks.endResetting = t at frame report ⊢
  refine ⟨t, rfl, fun c => ?_, ?_, fun i => ?_, ?_, ?_, ?_, ?_, ?_, fun hb => ?_, fun n hb hn => ?_, ?_, ?_⟩
  · have chan : t.chan c = (s.chan c).softReset := by
      rw [frame, ← State.chan_of_chans (s := u) (t := s) (by rw [stopped])]
      exact u.chan_with_chans_map Channel.softReset c
    rw [chan, Channel.softReset_eq]
    cases (s.chan c).lineRead <;> rfl
  · rw [frame, stopped]; rfl
  · have walk : t.walk = s.walk.softReset := by rw [frame, stopped]; rfl
    rw [walk, WalkUnit.softReset_slots]
    cases s.walk.slots[i] <;> rfl
  · rw [frame]; rfl
  · rw [frame]; rfl
  · rw [frame, stopped]; rfl
  · rw [frame, stopped]; rfl
  · rw [frame, stopped]; rfl
  · rw [frame, idle hb]; exact ⟨rfl, rfl⟩
  · rw [frame, busy n hb hn]; exact ⟨rfl, rfl⟩
  · rw [stopped] at report; exact report
  · rw [frame, stopped]; rfl

end Sys2Proof.Machine
end

section
/-!
SUPPORT. The requests of every channel are conserved by every operation (R58, R59, R78): none is lost, none is answered
twice, and no answer is taken back; and no operation turns a channel on while the bridge is RESETTING (R174). O5
follows, and the first law of O57.
-/

namespace Sys2Proof.Machine

/-! ## What every operation carries on -/

/-- R59, R78: of a channel's requests none is lost or answered twice, and an answer given stays given. -/
structure RequestsKept (a b : Channel) : Prop where
  seen : b.requestsSeen = a.requestsSeen
  answers : a.answers <+: b.answers

/-- Every channel's requests are kept, and one that RESETTING finds DISABLED stays DISABLED while the bridge is RESETTING. -/
structure Carried (s t : State) : Prop where
  requests : ∀ c, RequestsKept (s.chan c) (t.chan c)
  off : ∀ c, (s.bridge = .resetting → (s.chan c).state = .disabled) →
    t.bridge = .resetting → (t.chan c).state = .disabled

theorem RequestsKept.refl (a : Channel) : RequestsKept a a := ⟨rfl, List.prefix_rfl⟩

theorem RequestsKept.trans {a b c : Channel} (h₁ : RequestsKept a b) (h₂ : RequestsKept b c) : RequestsKept a c :=
  ⟨h₂.seen.trans h₁.seen, h₁.answers.trans h₂.answers⟩

/-- R59: the answer to a pending transaction takes its place. -/
theorem RequestsKept.answered {a b : Channel} (pending : a.txn.isSome = true) (txn : b.txn = none) {x : Answer}
    (answers : b.answers = a.answers ++ [x]) (held : b.held = a.held) : RequestsKept a b := by
  refine ⟨?_, answers ▸ List.prefix_append ..⟩
  simp only [Channel.requestsSeen, pending, txn, answers, held, List.length_append]
  rfl

/-- A transaction that stays pending, or absent, answers nothing. -/
theorem RequestsKept.of_txn {a b : Channel} (txn : b.txn.isSome = a.txn.isSome) (answers : b.answers = a.answers)
    (held : b.held = a.held) : RequestsKept a b := by
  refine ⟨?_, answers ▸ List.prefix_rfl⟩
  simp only [Channel.requestsSeen, txn, answers, held]

/-- An update of the channels that turns none on and does not touch the bridge. -/
theorem Carried.of_channels {s t : State} (bridge : t.bridge = s.bridge)
    (chan : ∀ c, RequestsKept (s.chan c) (t.chan c) ∧ ((s.chan c).state = .disabled → (t.chan c).state = .disabled)) :
    Carried s t :=
  ⟨fun c => (chan c).1, fun c law resetting => (chan c).2 (law (bridge ▸ resetting))⟩

theorem Carried.of_chan_eq {s t : State} (bridge : t.bridge = s.bridge) (h : ∀ c, t.chan c = s.chan c) : Carried s t :=
  .of_channels bridge fun c => by rw [h c]; exact ⟨.refl _, id⟩

/-- An update of the state's other parts carries every channel on. -/
theorem Carried.of_chans_eq {s t : State} (bridge : t.bridge = s.bridge) (h : t.chans = s.chans) : Carried s t :=
  .of_chan_eq bridge (State.chan_of_chans h)

theorem Carried.refl (s : State) : Carried s s := .of_chans_eq rfl rfl

/-- What an operation carries on of what the one before it did. -/
theorem Carried.after {s t u : State} (h₂ : Carried t u) (h₁ : Carried s t) : Carried s u :=
  ⟨fun c => (h₁.requests c).trans (h₂.requests c), fun c => h₂.off c ∘ h₁.off c⟩

theorem Carried.setChan {s : State} {c : Chan} {x : Channel} (requests : RequestsKept (s.chan c) x)
    (off : (s.chan c).state = .disabled → x.state = .disabled) : Carried s (s.setChan c x) :=
  .of_channels rfl fun d => by
    rw [State.chan_setChan]
    split
    · next hd => exact hd ▸ ⟨requests, off⟩
    · exact ⟨.refl _, id⟩

theorem Carried.modChan {s : State} {c : Chan} {f : Channel → Channel} (requests : RequestsKept (s.chan c) (f (s.chan c)))
    (off : (s.chan c).state = .disabled → (f (s.chan c)).state = .disabled) : Carried s (s.modChan c f) :=
  .setChan requests off

theorem Carried.setBuffer (s : State) (c : Chan) (b : Buffer) : Carried s (s.setBuffer c b) :=
  .modChan (.of_txn rfl rfl rfl) id

theorem Carried.foldl {α : Type} {f : State → α → State} (h : ∀ s a, Carried s (f s a)) (l : List α) (s : State) :
    Carried s (l.foldl f s) := by
  induction l generalizing s with
  | nil => exact .refl s
  | cons a l ih => exact (ih (f s a)).after (h s a)

theorem Carried.unlessReset {s : State} {f : State → State} (h : Carried s (f s)) : Carried s (s.unlessReset f) :=
  State.unlessReset_keeps (.refl s) fun _ => h

/-! ## The shared operations -/

section
variable (s : State) (c : Chan)

theorem State.answer_carried (pending : (s.chan c).txn.isSome = true) (a : Answer) : Carried s (s.answer c a) :=
  .modChan (.answered pending rfl rfl rfl) id

theorem State.flushBuffer_carried : Carried s (s.flushBuffer c) := .of_channels (by simp) fun d => by
  by_cases hd : d = c
  · subst hd
    rw [State.flushBuffer_chan_self]
    exact ⟨.of_txn rfl rfl rfl, id⟩
  · rw [State.flushBuffer_chan_ne s hd]
    exact ⟨.refl _, id⟩

theorem State.takeFault_carried (k : Access) (a : ChanAddr) (x : Cause) : Carried s (s.takeFault c k a x) :=
  .of_chan_eq (by simp) fun d => s.chan_takeFault c d k a x

theorem State.enterFaulted_carried : Carried s (s.enterFaulted c) := by
  unfold State.enterFaulted
  split
  · next active =>
    refine .after (.modChan (.of_txn rfl rfl rfl) fun off => ?_) (s.flushBuffer_carried c)
    rw [State.flushBuffer_chan_self, active] at off
    cases off
  · exact .refl s

theorem State.failTransaction_carried (pending : (s.chan c).txn.isSome = true) (k : Access) (a : ChanAddr) (x : Cause)
    (y : Answer) : Carried s (s.failTransaction c k a x y) :=
  (State.enterFaulted_carried ..).after ((State.takeFault_carried ..).after (s.answer_carried c pending y))

theorem State.grantPlace_carried : Carried s s.grantPlace := .of_channels (by simp) fun c => by
  rw [State.grantPlace_chan]
  exact ⟨.of_txn rfl rfl rfl, id⟩

theorem State.releaseReservation_carried : Carried s (s.releaseReservation c) :=
  (State.grantPlace_carried _).after (.setBuffer ..)

theorem State.queueInvalidate_carried (line : Word) : Carried s (s.queueInvalidate c line) := by
  simp only [State.queueInvalidate]
  split
  · exact (State.releaseReservation_carried ..).after (.of_chans_eq rfl rfl)
  · exact .after (.setBuffer ..) (.of_chans_eq rfl rfl)

theorem State.trySync_carried : Carried s (s.trySync c) := by
  by_cases h : SyncEnds s c
  · obtain ⟨⟨x, hx, -⟩, -⟩ := id h
    rw [State.trySync_of_ends hx h]
    exact s.answer_carried c (by rw [hx]; rfl) _
  · rw [State.trySync_of_not_ends h]
    exact .refl s

theorem State.reachDisabled_carried : Carried s (s.reachDisabled c) :=
  .after (t := s.modChan c fun ch => { ch with state := .disabled }) (.of_chans_eq rfl rfl)
    (.modChan (.of_txn rfl rfl rfl) fun _ => rfl)

theorem State.settle_carried : Carried s (s.settle c) := by
  by_cases h : DrainEnds s c ∨ AbortEnds s c
  · rw [(s.settle_eq c).1 h]
    exact (State.reachDisabled_carried ..).after (s.trySync_carried c)
  · rw [(s.settle_eq c).2 h]
    exact s.trySync_carried c

/-! ## The path of an access -/

theorem State.freeSlot_carried (i : Fin 2) : Carried s (s.freeSlot i) := .of_chan_eq (by simp) (s.freeSlot_chan i)

/-- The pending transaction goes on in another phase. -/
theorem Carried.phase (f : Channel → Channel) (g : Transaction → Transaction) (state : ∀ ch, (f ch).state = ch.state)
    (txn : ∀ ch, (f ch).txn = ch.txn.map g) (answers : ∀ ch, (f ch).answers = ch.answers)
    (held : ∀ ch, (f ch).held = ch.held) : Carried s (s.modChan c f) :=
  .modChan (.of_txn (by rw [txn, Option.isSome_map]) (answers _) (held _)) fun off => (state _).trans off

theorem State.waitForBuffer_carried (tr : Translation) : Carried s (s.waitForBuffer c tr) :=
  .phase s c _ _ (fun _ => rfl) (fun _ => rfl) (fun _ => rfl) fun _ => rfl

section
variable {s c} (pending : (s.chan c).txn.isSome = true)
include pending

theorem State.mergeWrite_carried (addr : ChanAddr) (data : WriteData) (tr : Translation) :
    Carried s (s.mergeWrite c addr data tr) := by
  obtain ⟨timer, -, eq⟩ := s.mergeWrite_eq c addr data tr
  rw [eq]
  dsimp only
  generalize Buffer.merge _ _ _ _ = m
  have answered : Carried s ((s.setBuffer c m).answer c (.done [])) :=
    (State.answer_carried _ c (by simpa using pending) _).after (.setBuffer s c m)
  split
  · exact (State.flushBuffer_carried ..).after answered
  · exact answered

theorem State.placeWrite_carried (addr : ChanAddr) (data : WriteData) (tr : Translation) :
    Carried s (s.placeWrite c addr data tr) := by
  simp only [State.placeWrite]
  repeat' split
  · exact State.mergeWrite_carried pending ..
  · exact State.mergeWrite_carried pending ..
  · exact (State.waitForBuffer_carried ..).after (s.flushBuffer_carried c)
  · exact s.waitForBuffer_carried c tr
  · exact s.waitForBuffer_carried c tr

theorem State.placeRead_carried (size : Size) (tr : Translation) : Carried s (s.placeRead c size tr) := by
  simp only [State.placeRead, State.serveRead]
  repeat' split
  · exact (State.waitForBuffer_carried ..).after (s.flushBuffer_carried c)
  · exact s.answer_carried c pending _
  · exact .phase s c _ _ (fun _ => rfl) (fun _ => rfl) (fun _ => rfl) fun _ => rfl

end

theorem State.checkRights_carried (x : Xlat) : Carried s (s.checkRights c x) := by
  unfold State.checkRights
  split
  · exact .refl s
  · next t ht =>
    have pending : (s.chan c).txn.isSome = true := by rw [ht]; rfl
    repeat' split
    · exact State.placeRead_carried pending ..
    · exact s.failTransaction_carried c pending ..
    · exact State.placeWrite_carried pending ..
    · exact s.failTransaction_carried c pending ..
    · exact .refl s

theorem State.failWalk_carried (x : Cause) : Carried s (s.failWalk c x) := by
  unfold State.failWalk
  split
  · exact .refl s
  · next t ht =>
    split
    · exact s.failTransaction_carried c (by rw [ht]; rfl) ..
    · exact .refl s

theorem State.walkReturn_carried (i : Fin 2) (result : WalkResult) : Carried s (s.walkReturn i result) := by
  simp only [State.walkReturn]
  repeat' split
  · exact .refl s
  · exact .refl s
  · exact (State.settle_carried ..).after (s.freeSlot_carried i)
  · exact .of_chans_eq rfl rfl
  · exact (State.settle_carried ..).after ((State.failWalk_carried ..).after (s.freeSlot_carried i))
  · exact (State.settle_carried ..).after ((State.failWalk_carried ..).after (s.freeSlot_carried i))
  · exact (State.settle_carried ..).after ((State.checkRights_carried ..).after
      ((State.freeSlot_carried ..).after (.of_chans_eq rfl rfl)))

theorem State.lookup_carried : Carried s (s.lookup c) := by
  unfold State.lookup
  repeat' split
  · exact .refl s
  · exact (State.settle_carried ..).after ((State.checkRights_carried ..).after (.of_chans_eq rfl rfl))
  · exact .after (.of_chan_eq (by simp) (State.startWalk_chan _ c _))
      (.phase s c _ _ (fun _ => rfl) (fun _ => rfl) (fun _ => rfl) fun _ => rfl)

theorem State.answerRead_carried (d : LineData) : Carried s (s.answerRead c d) := by
  unfold State.answerRead
  split
  · next ht => exact s.answer_carried c (by rw [ht]; rfl) _
  · exact .refl s

theorem State.lineReadReturn_carried (result : LineResult) : Carried s (s.lineReadReturn c result) := by
  have cleared : Carried s (s.modChan c fun ch => { ch with lineRead := none }) := .modChan (.of_txn rfl rfl rfl) id
  simp only [State.lineReadReturn]
  repeat' split
  · exact .refl s
  · exact .refl s
  · exact (State.settle_carried ..).after cleared
  · next ht =>
    exact (State.settle_carried ..).after ((State.failTransaction_carried _ c (by simp [ht]) ..).after cleared)
  · exact (State.settle_carried ..).after cleared
  · exact (State.settle_carried ..).after ((State.answerRead_carried ..).after
      (.after (.modChan (.of_txn rfl rfl rfl) id) cleared))

theorem State.writeBusError_carried : Carried s (s.writeBusError c) :=
  .after (.phase _ c Channel.markWriteError _ (fun _ => rfl) (fun _ => rfl) (fun _ => rfl) fun _ => rfl)
    ((State.enterFaulted_carried ..).after (s.takeFault_carried ..))

theorem State.resolveReservation_carried : Carried s (s.resolveReservation c) := by
  simp only [State.resolveReservation]
  repeat' split
  · exact (State.queueInvalidate_carried ..).after (.of_chans_eq rfl rfl)
  · exact (State.releaseReservation_carried ..).after (.of_chans_eq rfl rfl)
  · exact .refl s

theorem State.restartWaiting_carried : Carried s (s.restartWaiting c) := by
  unfold State.restartWaiting
  split
  · next ht => exact State.placeWrite_carried (by rw [ht]; rfl) ..
  · next ht => exact State.placeRead_carried (by rw [ht]; rfl) ..
  · exact .refl s

theorem State.lineWriteAck_carried (ack : Ack) : Carried s (s.lineWriteAck c ack) := by
  have emptied (t : State) : Carried t ((t.resolveReservation c).setBuffer c Buffer.cleared) :=
    .after (.setBuffer ..) (t.resolveReservation_carried c)
  unfold State.lineWriteAck
  split
  · refine (State.settle_carried ..).after ((State.restartWaiting_carried ..).after ((emptied _).after ?_))
    cases ack with
    | ok => exact .refl s
    | busError => exact s.writeBusError_carried c
  · exact .refl s

end

section
variable (s : State)

theorem State.killAck_carried (ack : Ack) : Carried s (s.killAck ack) := by
  unfold State.killAck
  split
  · exact .refl s
  · split
    · refine .after (.foldl State.settle_carried ..) ((State.grantPlace_carried _).after ?_)
      cases ack <;> exact .of_chans_eq rfl rfl
    · exact .refl s

/-! ## The bus -/

theorem State.observe_carried (w : BusWrite) : Carried s (s.observe w) := .of_channels (by simp) fun c => by
  rw [State.observe_chan]
  exact ⟨.of_txn rfl rfl rfl, id⟩

theorem State.issue_carried (r : Requester) : Carried s (s.issue r) := by
  cases r with
  | walk i => exact .of_chans_eq rfl rfl
  | read c =>
    simp only [State.issue]
    exact .after (.modChan (.of_txn rfl rfl rfl) id) (.of_chans_eq rfl rfl)
  | write c =>
    simp only [State.issue]
    exact (State.observe_carried ..).after (.after (.setBuffer ..) (.of_chans_eq rfl rfl))
  | kill =>
    simp only [State.issue]
    split <;> exact .of_chans_eq rfl rfl

theorem State.busGrant_carried : Carried s s.busGrant := by
  unfold State.busGrant
  repeat' split
  · exact s.issue_carried _
  · exact .refl s
  · exact .refl s

/-- R174: the end of RESETTING leaves the channels as they are. -/
theorem State.endResetting_carried : Carried s s.endResetting := by
  unfold State.endResetting
  split
  · exact ⟨fun _ => .refl _, fun _ _ => nofun⟩
  · exact .refl s

theorem State.complete_carried (k : Completion) : Carried s (s.complete k) := by
  have freed (id : Nat) : Carried s (s.freeRecord id) := .of_chans_eq rfl rfl
  unfold State.complete
  split <;> split
  · exact (State.endResetting_carried _).after ((State.walkReturn_carried ..).after (freed _))
  · exact .refl s
  · exact (State.endResetting_carried _).after ((State.lineReadReturn_carried ..).after (freed _))
  · exact .refl s
  · exact (State.endResetting_carried _).after ((State.lineWriteAck_carried ..).after (freed _))
  · exact .refl s
  · exact (State.endResetting_carried _).after ((State.killAck_carried ..).after (freed _))
  · exact .refl s

/-! ## Ports and time -/

/-- R58, R60: a request that a port has taken, as the pending transaction. -/
def State.begun (s : State) (c : Chan) (x : Transaction) : State := s.modChan c fun ch => { ch with txn := some x }

/-- An answer takes the place of whatever transaction is pending. -/
theorem State.begun_answer (c : Chan) (x : Transaction) (a : Answer) : (s.begun c x).answer c a = s.answer c a := by
  simp [State.begun, State.modChan_eq_setChan, State.answer_eq_setChan]

theorem State.begun_failTransaction (c : Chan) (x : Transaction) (k : Access) (a : ChanAddr) (y : Cause) (z : Answer) :
    (s.begun c x).failTransaction c k a y z = s.failTransaction c k a y z := by
  rw [State.failTransaction, State.begun_answer, ← State.failTransaction]

/-- R14 to R16, R58, R63: whatever becomes of a request that a port takes, it is as if it had first been pending. -/
theorem State.takeRequest_carried (c : Chan) (r : Request) : ∃ x, Carried (s.begun c x) (s.takeRequest c r) := by
  let x : Transaction := { request := r, phase := .waitLookup, translation := none, writeErrorSeen := false }
  have pending : ((s.begun c x).chan c).txn.isSome = true := by simp [State.begun]
  unfold State.takeRequest State.acceptAccess State.acceptSync
  repeat' split
  · exact ⟨x, s.begun_failTransaction c x .. ▸ State.failTransaction_carried _ c pending ..⟩
  · exact ⟨x, s.begun_failTransaction c x .. ▸ State.failTransaction_carried _ c pending ..⟩
  · exact ⟨x, .refl _⟩
  · exact ⟨_, (State.settle_carried ..).after (State.flushBuffer_carried ..)⟩
  · exact ⟨x, s.begun_answer c x .. ▸ State.answer_carried _ c pending _⟩

theorem State.portTake_carried (c : Chan) : Carried s (s.portTake c) := by
  unfold State.portTake
  split
  · next r rest txn held =>
    obtain ⟨x, taken⟩ := State.takeRequest_carried (s.modChan c fun ch => { ch with held := rest }) c r
    refine taken.after ?_
    rw [State.begun, State.modChan_eq_setChan, State.modChan_eq_setChan, State.setChan_setChan]
    refine .setChan ⟨?_, by simp⟩ (by simp)
    simp only [State.chan_setChan_self, Channel.requestsSeen, txn, held, List.length_cons]
    simp +arith
  · exact .refl s

theorem State.flushExpired_carried : Carried s s.flushExpired := by
  simp only [State.flushExpired]
  split
  · exact .foldl State.flushBuffer_carried ..
  · exact .after (.foldl State.flushBuffer_carried ..) (.of_chans_eq rfl rfl)

theorem State.tick_carried : Carried s s.tick := by
  unfold State.tick
  split
  · exact .refl s
  · refine (State.flushExpired_carried _).after (.of_channels rfl fun c => ?_)
    rw [State.chan_mapChans, Channel.lowerTimer]
    split
    · exact ⟨.of_txn rfl rfl rfl, id⟩
    · exact ⟨.refl _, id⟩

theorem State.clockPeriod_carried : Carried s s.clockPeriod := by
  unfold State.clockPeriod
  repeat' split
  · exact .refl s
  · exact .of_chans_eq rfl rfl
  · exact s.tick_carried

theorem State.expireTimer_carried (c : Chan) : Carried s (s.expireTimer c) := by
  unfold State.expireTimer
  split
  · exact s.flushBuffer_carried c
  · exact .refl s

theorem State.idle_carried : Carried s s.idle := by
  refine .unlessReset ?_
  split
  · exact s.portTake_carried _
  · exact s.clockPeriod_carried

/-! ## Commands -/

theorem State.stopTransaction_carried (c : Chan) : Carried s (s.stopTransaction c) := by
  simp only [State.stopTransaction]
  split
  · exact .refl s
  · next t ht =>
    have withdrawn : Carried s (s.abortWalk c) := .of_chan_eq (by simp) (s.abortWalk_chan c)
    have pending : (s.chan c).txn.isSome = true := by rw [ht]; rfl
    split
    · exact (State.answer_carried _ c (by rw [State.abortWalk_chan]; exact pending) _).after withdrawn
    all_goals exact s.answer_carried c pending _

theorem State.discardBuffer_carried (c : Chan) : Carried s (s.discardBuffer c) := by
  have cleared (inv : InvQueue) : Carried s (({ s with inv := inv } : State).setBuffer c Buffer.cleared) :=
    .after (.setBuffer ..) (.of_chans_eq rfl rfl)
  simp only [State.discardBuffer]
  repeat' split
  · exact .refl s
  · exact .refl s
  · exact (State.grantPlace_carried _).after (cleared _)
  · exact cleared _
  · exact (State.grantPlace_carried _).after (cleared _)
  · exact cleared _

/-- A channel that is on changes its state, its read-ahead line and its line read. -/
theorem Carried.turn {c : Chan} {f : Channel → Channel} (on : (s.chan c).state ≠ .disabled)
    (requests : ∀ ch, RequestsKept ch (f ch)) : Carried s (s.modChan c f) :=
  .modChan (requests _) fun off => absurd off on

theorem State.startAbort_carried {c : Chan} (on : (s.chan c).state ≠ .disabled) : Carried s (s.startAbort c) := by
  unfold State.startAbort
  refine .after (.turn _ ?_ fun _ => ?_) ((State.discardBuffer_carried ..).after (s.stopTransaction_carried c))
  · rw [State.discardBuffer_chan_self, State.stopTransaction_chan_self]
    exact on
  · exact .of_txn rfl rfl rfl

theorem State.abortChannel_carried (c : Chan) : Carried s (s.abortChannel c).1 := by
  by_cases running : (s.chan c).Running
  · rw [State.abortChannel_of_running running]
    dsimp only
    refine (State.settle_carried ..).after (s.startAbort_carried ?_)
    rcases running with h | h | h <;> simp [h]
  · rw [State.abortChannel_of_off (by cases h : (s.chan c).state <;> simp_all [Channel.Running])]
    exact .refl s

/-- R66: only an enable turns a channel on, and none is dispatched in RESETTING. -/
theorem State.enableChannel_carried (running : s.bridge = .running) (c : Chan) : Carried s (s.enableChannel c).1 := by
  have enabled : Carried s (s.modChan c fun ch => { ch with state := .active }) := by
    refine ⟨fun d => ?_, fun d _ resetting => ?_⟩
    · rw [State.chan_modChan]
      split
      · next hd => exact hd ▸ .of_txn rfl rfl rfl
      · exact .refl _
    · rw [State.modChan_bridge, running] at resetting
      cases resetting
  simp only [State.enableChannel]
  repeat' split
  · exact enabled
  · exact .refl s
  · exact .refl s

theorem State.resumeChannel_carried (c : Chan) : Carried s (s.resumeChannel c).1 := by
  simp only [State.resumeChannel]
  split
  · next h => exact .turn s (f := fun ch => { ch with state := .active }) (by simp [h]) fun _ => .of_txn rfl rfl rfl
  · exact .refl s

theorem State.startDrain_carried {c : Chan} (on : (s.chan c).state ≠ .disabled) : Carried s (s.startDrain c) := by
  unfold State.startDrain
  refine .after (.turn _ ?_ fun _ => ?_) (s.flushBuffer_carried c)
  · rw [State.flushBuffer_chan_self]
    exact on
  · exact .of_txn rfl rfl rfl

theorem State.disableChannel_carried (c : Chan) : Carried s (s.disableChannel c).1 := by
  by_cases on : (s.chan c).state = .active ∨ (s.chan c).state = .faulted
  · rw [State.disableChannel_of_on on]
    dsimp only
    exact (State.settle_carried ..).after (s.startDrain_carried (by rcases on with h | h <;> simp [h]))
  · rw [State.disableChannel_of_not_on on]
    exact .refl s

theorem State.dispatchCommand_carried (running : s.bridge = .running) (n : CommandName) (channel : BitVec 4)
    (page : BitVec 14) : Carried s (s.dispatchCommand n channel page) := by
  have completed {t : State} {o : CmdOutcome} (h : Carried s t) : Carried s (t.completeCommand n channel page o) :=
    .after (.of_chans_eq (State.completeCommand_bridge ..) (State.completeCommand_chans ..)) h
  cases n with
  | chEnable => exact completed (s.enableChannel_carried running _)
  | chDisable => exact completed (s.disableChannel_carried _)
  | chResume => exact completed (s.resumeChannel_carried _)
  | chAbort => exact completed (s.abortChannel_carried _)
  | tagsClear => exact completed (.of_chans_eq (by simp) s.clearTags_chans)
  | xlatFlushPage | xlatFlushChannel | xlatFlushAll | xlatProbe => exact .of_chans_eq rfl rfl

theorem State.command_carried (n : CommandName) (channel : BitVec 4) (page : BitVec 14) :
    Carried s (s.command n channel page) := by
  unfold State.command
  repeat' split
  · exact .of_chans_eq rfl rfl
  · exact .of_chans_eq rfl rfl
  · next resetting _ => exact s.dispatchCommand_carried (by cases h : s.bridge <;> simp_all) ..
  · exact .of_chans_eq rfl rfl

theorem State.lookupService_carried : Carried s s.lookupService := by
  unfold State.lookupService
  split
  · exact (State.lookup_carried ..).after (.of_chans_eq rfl rfl)
  · exact .refl s

/-! ## Resets -/

/-- R79, R180: a reset answers a pending transaction STOPPED. -/
theorem RequestsKept.stopped {a b : Channel} (txn : b.txn = none)
    (answers : b.answers = if a.txn.isSome then a.answers ++ [.stopped] else a.answers) (held : b.held = a.held) :
    RequestsKept a b := by
  cases h : a.txn with
  | none => exact .of_txn (by rw [txn, h]) (by simpa [h] using answers) held
  | some x => exact .answered (by rw [h]; rfl) txn (by simpa [h] using answers) held

/-- R58: a request still held at the release is answered STOPPED. -/
theorem RequestsKept.atRelease (ch : Channel) : RequestsKept ch ch.atRelease := by
  unfold Channel.atRelease
  split
  · exact .refl ch
  · next r rest held =>
    refine ⟨?_, List.prefix_append ..⟩
    simp only [Channel.requestsSeen, held, List.length_append, List.length_cons]
    simp +arith

theorem State.assertReset_carried : Carried s s.assertReset :=
  ⟨fun c => State.assertReset_chan s c ▸ .stopped rfl rfl rfl, fun _ _ => nofun⟩

theorem State.releaseReset_carried (wsel1 wsel0 : Bool) : Carried s (s.releaseReset wsel1 wsel0) :=
  .of_channels rfl fun c => by
    rw [State.releaseReset_chan]
    refine ⟨.atRelease _, ?_⟩
    unfold Channel.atRelease
    split <;> exact id

/-- R79: a soft reset leaves every channel DISABLED. -/
theorem State.softReset_carried : Carried s s.softReset := by
  cases h : s.bridge with
  | resetting => rw [State.softReset_of_resetting h]; exact .refl s
  | running =>
    rw [State.softReset_of_running h]
    refine (State.endResetting_carried _).after ?_
    have chan (c : Chan) : s.stopCommand.resetBlocks.chan c = (s.chan c).softReset := by
      simp [State.resetBlocks, State.chan, State.stopCommand_chans]
    refine ⟨fun c => ?_, fun c _ _ => ?_⟩
    · rw [chan]; exact .stopped rfl rfl rfl
    · rw [chan]; rfl

/-! ## The register window, and every command -/

theorem State.writeDescriptor_carried (c : Chan) (reg : DescReg) (value : Word) :
    Carried s (s.writeDescriptor c reg value) := by
  unfold State.writeDescriptor
  split
  · exact .modChan (.of_txn rfl rfl rfl) id
  · exact .of_chans_eq rfl rfl

theorem State.writeReg_carried (r : Reg) (value : Word) : Carried s (s.writeReg r value) := by
  cases r with
  | ident | commandStatus | probeResult | shadowStatus | invalidateStatus | busStatus | faultHead0 | faultHead1
  | faultLogStatus | channelStatus => exact .refl s
  | timebase | globalStatus | intCause | intMask | channelOffSet | faultPop => exact .of_chans_eq rfl rfl
  | resetControl =>
    simp only [State.writeReg]
    split
    · exact s.softReset_carried
    · exact .refl s
  | command =>
    simp only [State.writeReg, State.writeCommand]
    repeat' split
    · exact s.command_carried ..
    · exact .of_chans_eq rfl rfl
    · exact .of_chans_eq rfl rfl
  | shadowControl => exact .of_chans_eq (by simp [State.writeReg]) (s.writeShadowControl_chans ..)
  | desc c reg => exact s.writeDescriptor_carried c reg value

theorem State.windowWrite_carried (addr : Word) (lanes : BitVec 4) (value : Word) :
    Carried s (s.windowWrite addr lanes value) := by
  unfold State.windowWrite
  repeat' split
  · exact s.writeReg_carried ..
  · exact .refl s
  · exact .of_chans_eq rfl rfl
  · exact .refl s

/-- R58: the state with a request joined to those held at its port. -/
def State.joined (s : State) (c : Chan) (r : Request) : State := s.modChan c fun ch => { ch with held := ch.held ++ [r] }

/-- R58: the state in which a command finds the requests, the one that it presents among them. -/
def State.presenting (s : State) (i : Instr) : State :=
  match presented i with
  | some (c, r) => s.joined c r
  | none => s

theorem State.present_carried (c : Chan) (r : Request) : Carried (s.joined c r) (s.present c r) := by
  unfold State.present
  exact .unlessReset (State.portTake_carried ..)

end

/-- Every command carries on every channel's requests, the one that it presents among them. -/
theorem exec_carried (i : Instr) (s t : State) (h : exec i s = .next t) : Carried (s.presenting i) t := by
  have effect {f : State → State} (hf : ∀ s, Carried s (f s)) : Carried s (s.unlessReset f) := .unlessReset (hf s)
  cases i <;> cases h
  case read | write | sync => exact s.present_carried ..
  case resetAssertion => exact effect State.assertReset_carried
  case resetRelease =>
    split
    · exact s.releaseReset_carried ..
    · exact .refl s
  case chEnable | chDisable | chResume | chAbort | xlatFlushPage | xlatFlushChannel | xlatFlushAll | xlatProbe
      | tagsClear => exact effect fun s => s.command_carried ..
  case lookupService => exact effect State.lookupService_carried
  case commandService => exact effect fun s => .of_chans_eq (by simp) s.commandService_chans
  case busGrant => exact effect State.busGrant_carried
  case walkDataReturn | lineReadDataReturn | lineWriteAcknowledge | killAcknowledge | ignoredCompletion =>
    exact effect fun s => s.complete_carried _
  case observedWrite => exact effect fun s => s.observe_carried _
  case fill => exact effect fun s => .of_chans_eq (by simp) (s.takeFill_chans ..)
  case sweepStep => exact effect fun s => .of_chans_eq (by simp) s.takeSweepStep_chans
  case tick => exact effect State.tick_carried
  case idleTimerExpiry => exact effect fun s => s.expireTimer_carried _
  case softReset => exact effect State.softReset_carried
  case modeWrite => exact effect fun s => .of_chans_eq (by simp) (s.writeShadowControl_chans ..)
  case descriptorWrite => exact effect fun s => s.writeDescriptor_carried ..
  case registerWrite => exact effect fun s => s.windowWrite_carried ..
  case faultPop | divisorWrite | wayMaskWrite | globalStatusClear | intCauseClear | channelOffClear | intMaskWrite =>
    exact effect fun _ => .of_chans_eq rfl rfl

/-! ## Requests conserved (R58, R59, R78) -/

theorem State.joined_chan (s : State) (c d : Chan) (r : Request) :
    ((s.joined d r).chan c).requestsSeen = (s.chan c).requestsSeen + (if d = c then 1 else 0) ∧
      ((s.joined d r).chan c).answers = (s.chan c).answers := by
  rw [State.joined, State.chan_modChan]
  split
  · next hd => subst hd; simp [Channel.requestsSeen, Nat.add_assoc]
  · exact ⟨rfl, rfl⟩

/-- Settles O5: a command presents at most one request, and it and the step carry on every other. -/
theorem oneAnswerForEachRequest : Obligations.OneAnswerForEachRequest := by
  intro s t c h
  obtain ⟨i, rest, queue, he⟩ | ⟨queue, rfl⟩ := step_cases h
  · have kept := (exec_carried i _ t he).requests c
    rw [queue, List.head?_cons, Option.bind_some]
    simp only [State.presenting] at kept
    cases hp : presented i with
    | none =>
      rw [hp] at kept
      exact ⟨kept.seen, kept.answers⟩
    | some presented =>
      obtain ⟨d, r⟩ := presented
      rw [hp] at kept
      obtain ⟨seen, answers⟩ := State.joined_chan { s with pending := rest } c d r
      exact ⟨kept.seen.trans seen, answers ▸ kept.answers⟩
  · have kept := s.idle_carried.requests c
    rw [queue]
    exact ⟨kept.seen, kept.answers⟩

end Sys2Proof.Machine
end

section
/-!
SUPPORT. The laws of RESETTING, of the cycle records, of the timebase and of the window base (R84, R138, R164, R172, R174):
what each command does to the parts they look at; O57.
-/

namespace Sys2Proof.Machine

/-! ## RESETTING (R79, R172, R174) -/

/-- Neither the state nor the bridge changes when a request is presented. -/
theorem State.presenting_state (s : State) (i : Instr) (c : Chan) :
    ((s.presenting i).chan c).state = (s.chan c).state ∧ (s.presenting i).bridge = s.bridge := by
  unfold State.presenting
  split
  · rw [State.joined, State.chan_modChan]
    split
    · next hd => subst hd; exact ⟨rfl, rfl⟩
    · exact ⟨rfl, rfl⟩
  · exact ⟨rfl, rfl⟩

theorem exec_keeps_off (i : Instr) (s t : State) (h : exec i s = .next t) (c : Chan)
    (law : s.bridge = .resetting → (s.chan c).state = .disabled) :
    t.bridge = .resetting → (t.chan c).state = .disabled := by
  obtain ⟨state, bridge⟩ := s.presenting_state i c
  exact (exec_carried i s t h).off c (by rw [state, bridge]; exact law)

/-! ## The bridge, the cycle records, the timebase and the window base -/

/-- The laws of the bridge outside the channels, kept from one state to another. -/
structure BridgeKept (s t : State) : Prop where
  idle : (s.bridge = .resetting → s.cmd.busy = false) → t.bridge = .resetting → t.cmd.busy = false
  cycles : OutstandingLaw s → OutstandingLaw t
  time : TimebaseLaw s → TimebaseLaw t
  base : WindowBaseLaw s → WindowBaseLaw t

/-- The parts of the state that the laws of the bridge look at outside the channels. -/
def State.bridgeParts (s : State) : BridgeState × CommandUnit × BusMaster × Timebase × Word :=
  (s.bridge, s.cmd, s.bus, s.time, s.windowBase)

theorem BridgeKept.of_eq {s t : State} (h : t.bridgeParts = s.bridgeParts) : BridgeKept s t := by
  simp only [State.bridgeParts, Prod.mk.injEq] at h
  obtain ⟨bridge, cmd, bus, time, base⟩ := h
  exact
    { idle := by rw [bridge, cmd]; exact id
      cycles := by simp only [OutstandingLaw, bus]; exact id
      time := by simp only [TimebaseLaw, time]; exact id
      base := by simp only [WindowBaseLaw, base]; exact id }

theorem BridgeKept.refl (s : State) : BridgeKept s s := .of_eq rfl

theorem BridgeKept.after {s t u : State} (h₂ : BridgeKept t u) (h₁ : BridgeKept s t) : BridgeKept s u where
  idle := h₂.idle ∘ h₁.idle
  cycles := h₂.cycles ∘ h₁.cycles
  time := h₂.time ∘ h₁.time
  base := h₂.base ∘ h₁.base

theorem BridgeKept.unlessReset {s : State} {f : State → State} (h : BridgeKept s (f s)) :
    BridgeKept s (s.unlessReset f) := State.unlessReset_keeps (.refl s) fun _ => h

/-- The command unit becomes IDLE, or the bridge leaves RESETTING. -/
theorem BridgeKept.of_idle {s t : State} (idle : t.cmd.busy = false ∨ t.bridge = .running) (bus : t.bus = s.bus)
    (time : t.time = s.time) (base : t.windowBase = s.windowBase) : BridgeKept s t where
  idle _ resetting := idle.resolve_right (by rw [resetting]; nofun)
  cycles := by simp only [OutstandingLaw, bus]; exact id
  time := by simp only [TimebaseLaw, time]; exact id
  base := by simp only [WindowBaseLaw, base]; exact id

/-- R84: the timebase alone changes. -/
theorem BridgeKept.of_time (s : State) {time : Timebase} (below : time.count < time.divisor.toNat ∨
    (time.divisor = 0 ∧ time.count = 0)) : BridgeKept s { s with time := time } where
  idle := id
  cycles := id
  time _ := below
  base := id

section
variable (s : State)

/-- R138: a record is freed. -/
theorem State.freeRecord_bridgeKept (id : Nat) : BridgeKept s (s.freeRecord id) where
  idle h := h
  cycles := fun ⟨few, ids, fresh⟩ => ⟨(List.length_filter_le ..).trans few, ids.sublist (List.filter_sublist.map _),
    fun k hk => fresh k (List.mem_filter.mp hk).1⟩
  time h := h
  base h := h

theorem State.endResetting_bridgeKept : BridgeKept s s.endResetting := by
  unfold State.endResetting
  split
  · exact { BridgeKept.refl s with idle := fun _ => nofun }
  · exact .refl s

theorem State.complete_bridgeKept (k : Completion) : BridgeKept s (s.complete k) := by
  have returned (id : Nat) {t : State} (h : t.bridgeParts = (s.freeRecord id).bridgeParts) :
      BridgeKept s t.endResetting :=
    (State.endResetting_bridgeKept t).after ((BridgeKept.of_eq h).after (s.freeRecord_bridgeKept id))
  cases k with
  | walk id result =>
    simp only [State.complete]
    split
    · exact returned id (by simp [State.bridgeParts])
    · exact .refl s
  | lineRead id result =>
    simp only [State.complete]
    split
    · exact returned id (by simp [State.bridgeParts])
    · exact .refl s
  | lineWrite id ack =>
    simp only [State.complete]
    split
    · exact returned id (by simp [State.bridgeParts])
    · exact .refl s
  | kill id ack =>
    simp only [State.complete]
    split
    · exact returned id (by simp [State.bridgeParts])
    · exact .refl s

/-- R138: a fifth cycle is never issued, and the serial number of a new one is used for the first time. -/
theorem OutstandingLaw.issue {s t : State} (law : OutstandingLaw s) (room : s.bus.cycles.length < 4) {r : Requester}
    (bus : t.bus = s.bus.issue r) : OutstandingLaw t := by
  obtain ⟨-, ids, fresh⟩ := law
  rw [OutstandingLaw, bus]
  refine ⟨?_, ?_, fun k hk => ?_⟩
  · simp only [BusMaster.issue, List.length_append, List.length_singleton]
    omega
  · simp only [BusMaster.issue, List.map_append]
    refine ids.append (List.nodup_singleton _) fun id old new => ?_
    obtain ⟨k, hk, rfl⟩ := List.mem_map.mp old
    have below := fresh k hk
    have : k.id = s.bus.nextId := by simpa using new
    omega
  · simp only [BusMaster.issue, List.mem_append, List.mem_singleton] at hk ⊢
    rcases hk with hk | rfl
    · exact Nat.lt_succ_of_lt (fresh k hk)
    · exact Nat.lt_succ_self _

theorem State.issue_bus (r : Requester) : (s.issue r).bus = s.bus.issue r := by
  cases r with
  | walk | read => rfl
  | write => simp [State.issue]
  | kill =>
    simp only [State.issue]
    split <;> rfl

theorem State.busGrant_bridgeKept : BridgeKept s s.busGrant := by
  unfold State.busGrant
  split
  · next room =>
    split
    · next r _ =>
      exact
        { idle := by simp
          cycles := fun law => law.issue room (s.issue_bus r)
          time := by simp [TimebaseLaw]
          base := by simp [WindowBaseLaw] }
    · exact .refl s
  · exact .refl s

theorem State.tick_bridgeKept : BridgeKept s s.tick := by
  unfold State.tick
  split
  · exact .refl s
  · next running =>
    refine .after (.of_eq (by simp [State.bridgeParts])) (.of_time s (time := { s.time with count := 0 }) (.inl ?_))
    exact Nat.pos_of_ne_zero fun stopped => running (BitVec.eq_of_toNat_eq stopped)

/-- R84: the count advances by one while it stays below the divisor, and a tick sets it back. -/
theorem State.clockPeriod_bridgeKept : BridgeKept s s.clockPeriod := by
  unfold State.clockPeriod
  repeat' split
  · exact .refl s
  · next below => exact .of_time s (.inl below)
  · exact s.tick_bridgeKept

theorem State.writeDivisor_bridgeKept (value : Word) : BridgeKept s (s.writeDivisor value) := by
  refine .of_time s ?_
  by_cases h : value.extractLsb' 0 8 = 0
  · exact .inr ⟨h, rfl⟩
  · exact .inl (Nat.pos_of_ne_zero fun stopped => h (BitVec.eq_of_toNat_eq stopped))

theorem State.idle_bridgeKept : BridgeKept s s.idle := by
  refine .unlessReset ?_
  split
  · exact .of_eq (by simp [State.bridgeParts])
  · exact s.clockPeriod_bridgeKept

/-- R170: in RESETTING no command reaches the TC port, so the command unit stays IDLE. -/
theorem State.command_bridgeKept (n : CommandName) (channel : BitVec 4) (page : BitVec 14) :
    BridgeKept s (s.command n channel page) := by
  unfold State.command
  repeat' split
  · exact .of_eq rfl
  · exact .of_idle (.inl rfl) rfl rfl rfl
  · next resetting _ =>
    exact .of_idle (.inr (by cases h : s.bridge <;> simp_all)) (by simp) (by simp) (by simp)
  · exact .of_idle (.inl rfl) rfl rfl rfl

theorem State.commandService_bridgeKept : BridgeKept s s.commandService := by
  unfold State.commandService
  split
  · simp only [State.serveCommand]
    split
    · exact .of_eq rfl
    · exact .of_idle (.inl rfl) (by split <;> rfl) (by split <;> rfl) (by split <;> rfl)
  · exact .refl s

theorem State.softReset_bridgeKept : BridgeKept s s.softReset := by
  cases h : s.bridge with
  | resetting => rw [State.softReset_of_resetting h]; exact .refl s
  | running =>
    rw [State.softReset_of_running h]
    refine (State.endResetting_bridgeKept _).after ?_
    exact
      { idle := fun _ _ => s.stopCommand_busy
        cycles := by simp [OutstandingLaw, State.resetBlocks]
        time := by simp [TimebaseLaw, State.resetBlocks]
        base := by simp [WindowBaseLaw, State.resetBlocks] }

theorem State.assertReset_bridgeKept : BridgeKept s s.assertReset where
  idle _ := nofun
  cycles _ := ⟨Nat.zero_le 4, List.nodup_nil, nofun⟩
  time _ := .inr ⟨rfl, rfl⟩
  base h := h

theorem State.writeReg_bridgeKept (r : Reg) (value : Word) : BridgeKept s (s.writeReg r value) := by
  cases r with
  | ident | commandStatus | probeResult | shadowStatus | invalidateStatus | busStatus | faultHead0 | faultHead1
  | faultLogStatus | channelStatus => exact .refl s
  | globalStatus | intCause | intMask | channelOffSet | faultPop => exact .of_eq rfl
  | timebase => exact s.writeDivisor_bridgeKept value
  | resetControl =>
    simp only [State.writeReg]
    split
    · exact s.softReset_bridgeKept
    · exact .refl s
  | command =>
    simp only [State.writeReg, State.writeCommand]
    repeat' split
    · exact s.command_bridgeKept ..
    · exact .of_eq rfl
    · exact .of_eq rfl
  | shadowControl | desc => exact .of_eq (by simp [State.writeReg, State.bridgeParts])

theorem State.windowWrite_bridgeKept (addr : Word) (lanes : BitVec 4) (value : Word) :
    BridgeKept s (s.windowWrite addr lanes value) := by
  unfold State.windowWrite
  repeat' split
  · exact s.writeReg_bridgeKept ..
  · exact .refl s
  · exact .of_eq rfl
  · exact .refl s

end

theorem exec_bridgeKept (i : Instr) (s t : State) (h : exec i s = .next t) : BridgeKept s t := by
  have effect {f : State → State} (hf : ∀ s, BridgeKept s (f s)) : BridgeKept s (s.unlessReset f) := .unlessReset (hf s)
  have same {f : State → State} (hf : ∀ s, (f s).bridgeParts = s.bridgeParts) : BridgeKept s (s.unlessReset f) :=
    effect fun s => .of_eq (hf s)
  cases i <;> cases h
  case read | write | sync => exact .of_eq (by simp [State.bridgeParts])
  case resetAssertion => exact effect State.assertReset_bridgeKept
  case resetRelease =>
    split
    · exact { BridgeKept.refl s with base := fun _ => ⟨_, _, rfl⟩ }
    · exact .refl s
  case chEnable | chDisable | chResume | chAbort | xlatFlushPage | xlatFlushChannel | xlatFlushAll | xlatProbe
      | tagsClear => exact effect fun s => s.command_bridgeKept ..
  case commandService => exact effect State.commandService_bridgeKept
  case busGrant => exact effect State.busGrant_bridgeKept
  case walkDataReturn | lineReadDataReturn | lineWriteAcknowledge | killAcknowledge | ignoredCompletion =>
    exact effect fun s => s.complete_bridgeKept _
  case tick => exact effect State.tick_bridgeKept
  case softReset => exact effect State.softReset_bridgeKept
  case divisorWrite => exact effect fun s => s.writeDivisor_bridgeKept _
  case registerWrite => exact effect fun s => s.windowWrite_bridgeKept ..
  case lookupService | observedWrite | fill | sweepStep | idleTimerExpiry | modeWrite | descriptorWrite =>
    exact same fun s => by simp [State.bridgeParts]
  case faultPop | wayMaskWrite | globalStatusClear | intCauseClear | channelOffClear | intMaskWrite =>
    exact same fun _ => rfl

/-- Settles O57: no command but a soft reset brings RESETTING about, and each of the other parts changes in few ways. -/
theorem bridgeLawsKept : Obligations.BridgeLawsKept := by
  refine ⟨fun s t => step_keeps (P := ResettingLaw) (fun _ _ => id) (fun s law resetting => ⟨?_, fun c => ?_⟩)
      fun i s t law h resetting => ⟨?_, fun c => ?_⟩,
    fun s t => step_keeps (P := OutstandingLaw) (fun _ _ => id) (fun s => s.idle_bridgeKept.cycles)
      fun i s t law h => (exec_bridgeKept i s t h).cycles law,
    fun s t => step_keeps (P := TimebaseLaw) (fun _ _ => id) (fun s => s.idle_bridgeKept.time)
      fun i s t law h => (exec_bridgeKept i s t h).time law,
    fun s t => step_keeps (P := WindowBaseLaw) (fun _ _ => id) (fun s => s.idle_bridgeKept.base)
      fun i s t law h => (exec_bridgeKept i s t h).base law⟩
  · exact s.idle_bridgeKept.idle (fun h => (law h).1) resetting
  · exact s.idle_carried.off c (fun h => (law h).2 c) resetting
  · exact (exec_bridgeKept i s t h).idle (fun h => (law h).1) resetting
  · exact exec_keeps_off i s t h c (fun h => (law h).2 c) resetting

end Sys2Proof.Machine
end

section
/-!
SUPPORT. No operation makes a SYNC, drain or abort condition true of a channel that it does not test (R63, R69, R71): the
conditions of every other channel hold after it only if they held before; O59.
-/

namespace Sys2Proof.Machine

/-! ## The law of the conditions -/

theorem settledLaw_iff (s : State) : SettledLaw s ↔ ∀ c, ¬ SyncEnds s c ∧ ¬ TurnsOff s c := by
  constructor
  · refine fun settled c => ⟨settled.not_syncEnds c, ?_⟩
    obtain ⟨-, drain, abort⟩ := settled c
    rintro (⟨draining, txn, ⟨empty, free, entries⟩, queue, slot⟩ | ⟨aborting, ends⟩)
    · have none := txn.resolve_right (settled.not_syncEnds c)
      have ready := (s.drainReady_iff c).mpr ⟨none, empty, queue, slot, free, entries⟩
      rw [drain draining] at ready
      cases ready
    · have ready := (s.abortReady_iff c).mpr ends
      rw [abort aborting] at ready
      cases ready
  · refine fun tested c => ⟨fun t ht sync => ?_, fun draining => ?_, fun aborting => ?_⟩
    · by_contra ready
      exact (tested c).1 ⟨⟨t, ht, sync⟩, (s.syncReady_iff c).mp (by simpa using ready)⟩
    · by_contra ready
      obtain ⟨none, empty, queue, slot, free, entries⟩ := (s.drainReady_iff c).mp (by simpa using ready)
      exact (tested c).2 (.inl ⟨draining, .inl none, ⟨empty, free, entries⟩, queue, slot⟩)
    · by_contra ready
      exact (tested c).2 (.inr ⟨aborting, (s.abortReady_iff c).mp (by simpa using ready)⟩)

/-- The conditions of channel `c` hold in `t` only if they hold in `s`. -/
structure Stricter (s t : State) (c : Chan) : Prop where
  sync : SyncEnds t c → SyncEnds s c
  off : TurnsOff t c → TurnsOff s c

theorem Stricter.refl (s : State) (c : Chan) : Stricter s s c := ⟨id, id⟩

theorem Stricter.after {s t u : State} {c : Chan} (h₂ : Stricter t u c) (h₁ : Stricter s t c) : Stricter s u c :=
  ⟨h₁.sync ∘ h₂.sync, h₁.off ∘ h₂.off⟩

/-! ## What the conditions look at -/

/-- R41: a slot holds the channel's walk. -/
def WalkUnit.Walks (w : WalkUnit) (c : Chan) : Prop := ∃ (i : Fin 2) (v : Walk), w.slots[i] = some v ∧ v.chan = c

theorem State.inSlot_false_iff (s : State) (c : Chan) : s.inSlot c = false ↔ ¬ s.walk.Walks c := by
  simp [State.inSlot_eq_false_iff, WalkUnit.Walks]

theorem State.inWalkQueue_false_iff (s : State) (c : Chan) :
    s.inWalkQueue c = false ↔ ¬ ∃ q ∈ s.walk.queue, q.chan = c := by
  simp [State.inWalkQueue]

/-- The walk unit lets nothing of the channel go: a place of the queue leads to a slot. -/
structure WalkKept (w w' : WalkUnit) (c : Chan) : Prop where
  slot : w.Walks c → w'.Walks c
  queue : (∃ q ∈ w.queue, q.chan = c) → (∃ q ∈ w'.queue, q.chan = c) ∨ w'.Walks c

/-- The channel lets nothing go that its conditions look at: it keeps its state or leaves DRAINING and ABORTING, and it
keeps the request pending; what keeps its buffer or its line read from the conditions stays. -/
structure ChannelKept (a b : Channel) : Prop where
  state : b.state = a.state ∨ (b.state ≠ .draining ∧ b.state ≠ .aborting)
  request : b.txn.map Transaction.request = a.txn.map Transaction.request
  buffer : b.buffer.state = .empty → b.buffer.reservation ≠ .held →
    a.buffer.state = .empty ∧ a.buffer.reservation ≠ .held
  writing : a.buffer.state = .writing → b.buffer.state = .writing
  lineRead : (∀ r, b.lineRead = some r → r.issued = false) → ∀ r, a.lineRead = some r → r.issued = false

theorem WalkKept.refl (w : WalkUnit) (c : Chan) : WalkKept w w c := ⟨id, .inl⟩

theorem ChannelKept.refl (a : Channel) : ChannelKept a a := ⟨.inl rfl, rfl, fun h h' => ⟨h, h'⟩, id, id⟩

/-- A change of the transaction's phase and of the parts that the conditions do not look at. -/
theorem ChannelKept.of_eq {a b : Channel} (state : b.state = a.state)
    (request : b.txn.map Transaction.request = a.txn.map Transaction.request) (buffer : b.buffer = a.buffer)
    (lineRead : b.lineRead = a.lineRead) : ChannelKept a b := by
  refine ⟨.inl state, request, ?_, ?_, ?_⟩
  · rw [buffer]; exact fun h h' => ⟨h, h'⟩
  · rw [buffer]; exact id
  · rw [lineRead]; exact id

/-- A change of the buffer that leaves it neither EMPTY nor less WRITING than it was. -/
theorem ChannelKept.of_buffer (a : Channel) {b : Buffer} (empty : b.state ≠ .empty)
    (writing : a.buffer.state = .writing → b.state = .writing) : ChannelKept a { a with buffer := b } :=
  ⟨.inl rfl, rfl, fun h => absurd h empty, writing, id⟩

/-- R125: a place that is granted keeps the conditions from holding. -/
theorem ChannelKept.of_held (a : Channel) : ChannelKept a { a with buffer := { a.buffer with reservation := .held } } :=
  ⟨.inl rfl, rfl, fun _ h => absurd rfl h, id, id⟩

/-- What keeps the conditions from holding stays, in the channel, in the invalidate queue and in the walk unit. -/
theorem Stricter.of_kept {s t : State} {c : Chan} (chan : ChannelKept (s.chan c) (t.chan c))
    (entries : ∀ e ∈ s.inv.entries, c ∈ e.chans → ∃ e' ∈ t.inv.entries, c ∈ e'.chans)
    (walk : WalkKept s.walk t.walk c) : Stricter s t c := by
  have condition : SyncCondition t c → SyncCondition s c := by
    rintro ⟨empty, free, none⟩
    obtain ⟨empty', free'⟩ := chan.buffer empty free
    refine ⟨empty', free', fun e he hc => ?_⟩
    obtain ⟨e', he', hc'⟩ := entries e he hc
    exact none e' he' hc'
  have sync : SyncEnds t c → SyncEnds s c := by
    rintro ⟨⟨x, hx, isSync⟩, holds⟩
    have request := chan.request
    rw [hx, Option.map_some, eq_comm, Option.map_eq_some_iff] at request
    obtain ⟨y, hy, same⟩ := request
    exact ⟨⟨y, hy, same.trans isSync⟩, condition holds⟩
  refine ⟨sync, ?_⟩
  rintro (⟨draining, txn, holds, queue, slot⟩ | ⟨aborting, slot, reads, notWriting⟩)
  · rw [State.inWalkQueue_false_iff] at queue
    rw [State.inSlot_false_iff] at slot
    refine .inl ⟨(chan.state.resolve_right fun off => off.1 draining) ▸ draining, txn.imp (fun none => ?_) sync,
      condition holds, ?_, ?_⟩
    · have request := chan.request
      rw [none] at request
      simpa using request.symm
    · exact (State.inWalkQueue_false_iff ..).mpr fun standing => (walk.queue standing).elim queue slot
    · exact (State.inSlot_false_iff ..).mpr fun walks => slot (walk.slot walks)
  · rw [State.inSlot_false_iff] at slot
    refine .inr ⟨(chan.state.resolve_right fun off => off.2 aborting) ▸ aborting, ?_, chan.lineRead reads,
      fun writing => notWriting (chan.writing writing)⟩
    exact (State.inSlot_false_iff ..).mpr fun walks => slot (walk.slot walks)

theorem Stricter.of_chan {s t : State} {c : Chan} (chan : ChannelKept (s.chan c) (t.chan c))
    (entries : t.inv.entries = s.inv.entries) (walk : t.walk = s.walk) : Stricter s t c :=
  .of_kept chan (fun e he hc => ⟨e, entries ▸ he, hc⟩) (walk ▸ .refl _ _)

theorem Stricter.of_chan_eq {s t : State} {c : Chan} (chan : t.chan c = s.chan c)
    (entries : t.inv.entries = s.inv.entries) (walk : t.walk = s.walk) : Stricter s t c :=
  .of_chan (chan ▸ .refl _) entries walk

/-- R63, R69, R71: a channel that is neither DRAINING nor ABORTING and has no SYNC pending has no condition to wait for. -/
theorem Stricter.of_off {s t : State} {c : Chan} (state : (t.chan c).state ≠ .draining ∧ (t.chan c).state ≠ .aborting)
    (sync : ∀ x, (t.chan c).txn = some x → x.request ≠ .sync) : Stricter s t c where
  sync := fun ⟨⟨x, hx, isSync⟩, _⟩ => absurd isSync (sync x hx)
  off h := h.elim (fun drain => absurd drain.1 state.1) fun abort => absurd abort.1 state.2

/-! ## Every channel, and every channel but one -/

/-- No condition of any channel holds in `t` that does not hold in `s`. -/
structure NoneEnds (s t : State) : Prop where
  chan : ∀ c, Stricter s t c

/-- No condition of another channel than `c` holds in `t` that does not hold in `s`. -/
structure NoneElsewhere (s t : State) (c : Chan) : Prop where
  chan : ∀ d, d ≠ c → Stricter s t d

theorem NoneEnds.elsewhere {s t : State} (h : NoneEnds s t) (c : Chan) : NoneElsewhere s t c := ⟨fun d _ => h.chan d⟩

theorem NoneEnds.refl (s : State) : NoneEnds s s := ⟨fun c => .refl s c⟩

theorem NoneElsewhere.refl (s : State) (c : Chan) : NoneElsewhere s s c := (NoneEnds.refl s).elsewhere c

theorem NoneEnds.after {s t u : State} (h₂ : NoneEnds t u) (h₁ : NoneEnds s t) : NoneEnds s u :=
  ⟨fun c => (h₂.chan c).after (h₁.chan c)⟩

theorem NoneElsewhere.after {s t u : State} {c : Chan} (h₂ : NoneElsewhere t u c) (h₁ : NoneElsewhere s t c) :
    NoneElsewhere s u c := ⟨fun d hd => (h₂.chan d hd).after (h₁.chan d hd)⟩

/-- An update of the parts of the state that the conditions do not look at. -/
theorem NoneEnds.of_eq {s t : State} (chans : t.chans = s.chans) (entries : t.inv.entries = s.inv.entries)
    (walk : t.walk = s.walk) : NoneEnds s t := ⟨fun c => .of_chan_eq (State.chan_of_chans chans c) entries walk⟩

theorem NoneEnds.modChan {s : State} {c : Chan} {f : Channel → Channel} (h : ChannelKept (s.chan c) (f (s.chan c))) :
    NoneEnds s (s.modChan c f) := ⟨fun d => .of_chan (by
  rw [State.chan_modChan]
  split
  · next hd => exact hd ▸ h
  · exact .refl _) rfl rfl⟩

theorem NoneElsewhere.of_eq {s t : State} {c : Chan} (chans : t.chans = s.chans)
    (entries : t.inv.entries = s.inv.entries) (walk : t.walk = s.walk) : NoneElsewhere s t c :=
  (NoneEnds.of_eq chans entries walk).elsewhere c

/-- An update of channel `c` alone. -/
theorem NoneElsewhere.modChan (s : State) (c : Chan) (f : Channel → Channel) : NoneElsewhere s (s.modChan c f) c :=
  ⟨fun _ hd => .of_chan_eq (State.chan_modChan_ne s (Ne.symm hd) f) rfl rfl⟩

theorem NoneEnds.foldl {α : Type} {f : State → α → State} (h : ∀ s a, NoneEnds s (f s a)) (l : List α) (s : State) :
    NoneEnds s (l.foldl f s) := by
  induction l generalizing s with
  | nil => exact .refl s
  | cons a l ih => exact (ih (f s a)).after (h s a)

theorem NoneEnds.unlessReset {s : State} {f : State → State} (h : NoneEnds s (f s)) : NoneEnds s (s.unlessReset f) :=
  State.unlessReset_keeps (.refl s) fun _ => h

/-- A test leaves no condition of its channel, so it need only not be made true elsewhere. -/
theorem NoneElsewhere.settle {s t : State} {c : Chan} (h : NoneElsewhere s t c) : NoneEnds s (t.settle c) := ⟨fun d => by
  by_cases hd : d = c
  · subst hd
    exact ⟨fun ends => absurd ends (t.settle_not_syncEnds d), fun ends => absurd ends (t.settle_not_turnsOff d)⟩
  · exact (Stricter.of_chan_eq (t.settle_chan_ne c hd) (by rw [State.settle_inv]) (t.settle_walk c)).after (h.chan d hd)⟩

/-- R131: the tests of several channels leave no condition of any of them. -/
theorem NoneEnds.foldl_settle {s t : State} {l : List Chan} (h : ∀ c, c ∉ l → Stricter s t c) :
    NoneEnds s (l.foldl State.settle t) := ⟨fun c => by
  have frame := State.foldl_settle_eq l t
  have inv : (l.foldl State.settle t).inv = t.inv := by rw [frame]
  have walk : (l.foldl State.settle t).walk = t.walk := by rw [frame]
  by_cases hc : c ∈ l
  · have chan : (l.foldl State.settle t).chan c = (t.settle c).chan c := by rw [State.foldl_settle_chan, if_pos hc]
    have inv' := inv.trans (t.settle_inv c).symm
    have walk' := walk.trans (t.settle_walk c).symm
    exact ⟨fun ends => absurd ((syncEnds_congr chan inv').mp ends) (t.settle_not_syncEnds c),
      fun ends => absurd ((turnsOff_congr chan inv' walk').mp ends) (t.settle_not_turnsOff c)⟩
  · have chan : (l.foldl State.settle t).chan c = t.chan c := by rw [State.foldl_settle_chan, if_neg hc]
    exact (Stricter.of_chan_eq chan (by rw [inv]) walk).after (h c hc)⟩

/-! ## The shared operations -/

section
variable (s : State) (c : Chan)

/-- R83: a buffer that is flushed is not EMPTY. -/
theorem State.flushBuffer_noneEnds : NoneEnds s (s.flushBuffer c) := by
  by_cases filling : (s.chan c).buffer.state = .filling
  · have pending := s.flushBuffer_buffer_state c
    rw [if_pos filling] at pending
    refine ⟨fun d => .of_chan ?_ (s.flushBuffer_entries c) (by simp)⟩
    by_cases hd : d = c
    · subst hd
      rw [State.flushBuffer_chan_self]
      exact .of_buffer _ (by rw [pending]; decide) (by rw [filling]; nofun)
    · rw [State.flushBuffer_chan_ne s hd]
      exact .refl _
  · rw [State.flushBuffer_of_not_filling filling]
    exact .refl s

theorem State.takeFault_noneEnds (k : Access) (a : ChanAddr) (x : Cause) : NoneEnds s (s.takeFault c k a x) :=
  ⟨fun d => .of_chan_eq (s.chan_takeFault c d k a x) (by simp) (by simp)⟩

theorem State.grantPlace_noneEnds : NoneEnds s s.grantPlace := by
  obtain ⟨h, -⟩ | ⟨c, rest, -, -, h⟩ := s.grantPlace_cases
  · rw [h]; exact .refl s
  · rw [h]; exact .after (.modChan (.of_held _)) (.of_eq rfl rfl rfl)

theorem State.enterFaulted_noneElsewhere : NoneElsewhere s (s.enterFaulted c) c := by
  unfold State.enterFaulted
  split
  · exact (NoneElsewhere.modChan ..).after ((s.flushBuffer_noneEnds c).elsewhere c)
  · exact .refl s c

theorem State.failTransaction_noneElsewhere (k : Access) (a : ChanAddr) (x : Cause) (y : Answer) :
    NoneElsewhere s (s.failTransaction c k a x y) c :=
  (State.enterFaulted_noneElsewhere ..).after (((State.takeFault_noneEnds ..).elsewhere c).after (.modChan ..))

theorem State.endReservation_noneElsewhere : NoneElsewhere s (s.endReservation c) c := by
  unfold State.endReservation
  exact .modChan ..

theorem State.releaseReservation_noneElsewhere : NoneElsewhere s (s.releaseReservation c) c :=
  ((State.grantPlace_noneEnds _).elsewhere c).after (s.endReservation_noneElsewhere c)

/-- R127: a merged or an appended entry lets no channel go. -/
theorem State.queueInvalidate_noneElsewhere (line : Word) : NoneElsewhere s (s.queueInvalidate c line) c := by
  have queued (entries : List InvEntry)
      (kept : ∀ d, ∀ e ∈ s.inv.entries, d ∈ e.chans → ∃ e' ∈ entries, d ∈ e'.chans) :
      NoneElsewhere s { s with inv := { s.inv with entries := entries } } c :=
    ⟨fun d _ => .of_kept (.refl _) (kept d) (.refl _ _)⟩
  simp only [State.queueInvalidate]
  split
  · refine (State.releaseReservation_noneElsewhere ..).after (queued _ fun d e he hd => ⟨_, List.mem_map_of_mem he, ?_⟩)
    split
    · unfold InvEntry.add
      split
      · exact hd
      · exact List.mem_append_left _ hd
    · exact hd
  · exact (State.endReservation_noneElsewhere ..).after (queued _ fun d e he hd => ⟨e, List.mem_append_left _ he, hd⟩)

/-! ## Walks -/

/-- R49: a slot that frees, of another channel's walk, goes to the head of the queue. -/
theorem SlotFreed.walkKept {s t : State} {i : Fin 2} (h : SlotFreed s t i)
    (other : ∀ v, s.walk.slots[i] = some v → v.chan ≠ c) : WalkKept s.walk t.walk c where
  slot := by
    rintro ⟨j, v, hv, hc⟩
    have hj : j ≠ i := fun same => other v (same ▸ hv) hc
    exact ⟨j, v, (h.slot_of_ne hj).trans hv, hc⟩
  queue := by
    rintro ⟨q, hq, hc⟩
    simp only [SlotFreed] at h
    split at h
    · next empty => rw [empty] at hq; cases hq
    · next head rest queue =>
      rw [queue, List.mem_cons] at hq
      rcases hq with rfl | hq
      · exact .inr ⟨i, _, by rw [h, WalkUnit.slots_set, if_pos rfl], hc⟩
      · exact .inl ⟨q, by rw [h]; exact hq, hc⟩

/-- The slots keep the channels they hold, and the queue the places of the channel. -/
theorem WalkKept.of_slots {w w' : WalkUnit} {c : Chan}
    (slots : ∀ (i : Fin 2) v, w.slots[i] = some v → ∃ v', w'.slots[i] = some v' ∧ v'.chan = v.chan)
    (queue : ∀ q ∈ w.queue, q.chan = c → q ∈ w'.queue) : WalkKept w w' c where
  slot := fun ⟨i, v, hv, hc⟩ =>
    let ⟨v', hv', same⟩ := slots i v hv
    ⟨i, v', hv', same.trans hc⟩
  queue := fun ⟨q, hq, hc⟩ => .inl ⟨q, queue q hq hc, hc⟩

/-- A slot is written that is idle or keeps its channel. -/
theorem WalkKept.set (w : WalkUnit) (i : Fin 2) (x : Walk) (requests : List (Fin 2)) (c : Chan)
    (same : ∀ v, w.slots[i] = some v → x.chan = v.chan) :
    WalkKept w { w with slots := w.slots.set i (some x), requests := requests } c := by
  refine .of_slots (fun j v hv => ?_) fun _ hq _ => hq
  rw [WalkUnit.slots_set]
  split
  · next hj => exact ⟨x, rfl, same v (hj ▸ hv)⟩
  · exact ⟨v, hv, rfl⟩

theorem State.freeSlot_noneElsewhere {i : Fin 2} {w : Walk} (hw : s.walk.slots[i] = some w) :
    NoneElsewhere s (s.freeSlot i) w.chan := ⟨fun d hd => by
  refine .of_kept (by rw [State.freeSlot_chan]; exact .refl _) (fun e he hc => ⟨e, ?_, hc⟩)
    ((s.freeSlot_freed i).walkKept d fun v hv => ?_)
  · rw [State.freeSlot_eq]; exact he
  · rw [hw] at hv
    cases hv
    exact Ne.symm hd⟩

/-- The walk unit alone changes. -/
theorem NoneEnds.of_walk (s : State) {w : WalkUnit} (h : ∀ c, WalkKept s.walk w c) : NoneEnds s { s with walk := w } :=
  ⟨fun c => .of_kept (.refl _) (fun e he hc => ⟨e, he, hc⟩) (h c)⟩

/-- R43: a walk that starts takes an idle slot or joins the queue. -/
theorem State.startWalk_noneEnds (p : Page) : NoneEnds s (s.startWalk c p) := by
  unfold State.startWalk
  split
  · next i idle =>
    have free := WalkUnit.idleSlot_some idle
    exact .of_walk s fun d => .set _ i _ _ d fun v hv => by rw [free] at hv; cases hv
  · exact .of_walk s fun d => .of_slots (fun _ v hv => ⟨v, hv, rfl⟩) fun _ hq _ => List.mem_append_left _ hq

/-- R54: the withdrawal of a channel's walk lets no other channel go. -/
theorem State.abortWalk_noneElsewhere : NoneElsewhere s (s.abortWalk c) c := by
  have queue {w : WalkUnit} (h : w.queue = (s.walk.withoutPlaces c).queue) {d : Chan} (hd : d ≠ c) :
      ∀ q ∈ s.walk.queue, q.chan = d → q ∈ w.queue := fun q hq hc =>
    h ▸ WalkUnit.mem_withoutPlaces.mpr ⟨hq, hc ▸ hd⟩
  have walks {w : WalkUnit} (h : ∀ d, d ≠ c → WalkKept s.walk w d) : NoneElsewhere s { s with walk := w } c :=
    ⟨fun d hd => .of_kept (.refl _) (fun e he hc => ⟨e, he, hc⟩) (h d hd)⟩
  obtain ⟨-, eq⟩ | ⟨i, v, hv, rfl, ⟨-, eq⟩ | ⟨-, eq⟩⟩ := s.abortWalk_cases c
  · rw [eq]
    exact walks fun d hd => .of_slots (fun _ v hv => ⟨v, hv, rfl⟩) (queue rfl hd)
  · rw [eq]
    refine walks fun d hd => .of_slots (fun j u hu => ?_) (queue rfl hd)
    rw [WalkUnit.slots_set]
    split
    · next hj =>
      subst hj
      rw [hv] at hu
      cases hu
      exact ⟨_, rfl, rfl⟩
    · exact ⟨u, hu, rfl⟩
  · rw [eq]
    refine (State.freeSlot_noneElsewhere _ (by exact hv)).after (walks fun d hd => ?_)
    exact .of_slots (fun _ u hu => ⟨u, hu, rfl⟩) (queue rfl hd)

/-! ## The path of an access -/

theorem State.mergeWrite_noneElsewhere (addr : ChanAddr) (data : WriteData) (tr : Translation) :
    NoneElsewhere s (s.mergeWrite c addr data tr) c := by
  obtain ⟨timer, -, eq⟩ := s.mergeWrite_eq c addr data tr
  rw [eq]
  dsimp only
  generalize Buffer.merge _ _ _ _ = m
  have answered : NoneElsewhere s ((s.setBuffer c m).answer c (.done [])) c :=
    (NoneElsewhere.modChan ..).after (.modChan ..)
  split
  · exact ((State.flushBuffer_noneEnds ..).elsewhere c).after answered
  · exact answered

theorem State.placeWrite_noneElsewhere (addr : ChanAddr) (data : WriteData) (tr : Translation) :
    NoneElsewhere s (s.placeWrite c addr data tr) c := by
  simp only [State.placeWrite]
  repeat' split
  · exact s.mergeWrite_noneElsewhere c addr data tr
  · exact s.mergeWrite_noneElsewhere c addr data tr
  · exact (NoneElsewhere.modChan ..).after ((s.flushBuffer_noneEnds c).elsewhere c)
  · exact .modChan ..
  · exact .modChan ..

theorem State.placeRead_noneElsewhere (size : Size) (tr : Translation) : NoneElsewhere s (s.placeRead c size tr) c := by
  simp only [State.placeRead, State.serveRead]
  repeat' split
  · exact (NoneElsewhere.modChan ..).after ((s.flushBuffer_noneEnds c).elsewhere c)
  · exact .modChan ..
  · exact .modChan ..

theorem State.checkRights_noneElsewhere (x : Xlat) : NoneElsewhere s (s.checkRights c x) c := by
  unfold State.checkRights
  repeat' split
  · exact .refl s c
  · exact s.placeRead_noneElsewhere ..
  · exact s.failTransaction_noneElsewhere ..
  · exact s.placeWrite_noneElsewhere ..
  · exact s.failTransaction_noneElsewhere ..
  · exact .refl s c

theorem State.failWalk_noneElsewhere (x : Cause) : NoneElsewhere s (s.failWalk c x) c := by
  unfold State.failWalk
  repeat' split
  · exact .refl s c
  · exact s.failTransaction_noneElsewhere ..
  · exact .refl s c

theorem State.walkReturn_noneEnds (i : Fin 2) (result : WalkResult) : NoneEnds s (s.walkReturn i result) := by
  simp only [State.walkReturn]
  split
  · exact .refl s
  · next w hw =>
    have freed := s.freeSlot_noneElsewhere hw
    repeat' split
    · exact .refl s
    · exact freed.settle
    · refine .of_walk s fun d => ?_
      rw [WalkUnit.modSlot, hw]
      exact .set _ i _ _ d fun v hv => by rw [hw] at hv; cases hv; rfl
    · exact ((State.failWalk_noneElsewhere ..).after freed).settle
    · exact ((State.failWalk_noneElsewhere ..).after freed).settle
    · refine NoneElsewhere.settle (.after (State.checkRights_noneElsewhere ..)
        ((State.freeSlot_noneElsewhere _ (by exact hw)).after ?_))
      exact .of_eq rfl rfl rfl

/-- The pending transaction goes on in another phase. -/
theorem ChannelKept.phase (a : Channel) (g : Transaction → Transaction) (same : ∀ t, (g t).request = t.request) :
    ChannelKept a { a with txn := a.txn.map g } :=
  .of_eq rfl (by cases a.txn <;> simp [same]) rfl rfl

theorem State.lookup_noneEnds : NoneEnds s (s.lookup c) := by
  unfold State.lookup
  repeat' split
  · exact .refl s
  · refine NoneElsewhere.settle (.after (State.checkRights_noneElsewhere ..) ?_)
    exact .of_eq rfl rfl rfl
  · exact (State.startWalk_noneEnds ..).after (.modChan (.phase _ _ fun _ => rfl))

theorem State.lineReadReturn_noneEnds (result : LineResult) : NoneEnds s (s.lineReadReturn c result) := by
  have answered (t : State) (d : LineData) : NoneElsewhere t (t.answerRead c d) c := by
    unfold State.answerRead
    split
    · exact .modChan ..
    · exact .refl t c
  simp only [State.lineReadReturn]
  repeat' split
  · exact .refl s
  · exact .refl s
  · exact (NoneElsewhere.modChan ..).settle
  · exact ((State.failTransaction_noneElsewhere ..).after (.modChan ..)).settle
  · exact (NoneElsewhere.modChan ..).settle
  · exact ((answered ..).after ((NoneElsewhere.modChan ..).after (.modChan ..))).settle

theorem State.writeBusError_noneElsewhere : NoneElsewhere s (s.writeBusError c) c :=
  (NoneElsewhere.modChan ..).after ((State.enterFaulted_noneElsewhere ..).after ((s.takeFault_noneEnds ..).elsewhere c))

theorem State.resolveReservation_noneElsewhere : NoneElsewhere s (s.resolveReservation c) c := by
  have lookedUp (sh : Shadow) : NoneElsewhere s { s with shadow := sh } c := .of_eq rfl rfl rfl
  simp only [State.resolveReservation]
  repeat' split
  · exact (State.queueInvalidate_noneElsewhere ..).after (lookedUp _)
  · exact (State.releaseReservation_noneElsewhere ..).after (lookedUp _)
  · exact .refl s c

theorem State.restartWaiting_noneElsewhere : NoneElsewhere s (s.restartWaiting c) c := by
  unfold State.restartWaiting
  split
  · exact s.placeWrite_noneElsewhere ..
  · exact s.placeRead_noneElsewhere ..
  · exact .refl s c

theorem State.lineWriteAck_noneEnds (ack : Ack) : NoneEnds s (s.lineWriteAck c ack) := by
  have emptied (t : State) : NoneElsewhere t ((t.resolveReservation c).setBuffer c Buffer.cleared) c :=
    (NoneElsewhere.modChan ..).after (t.resolveReservation_noneElsewhere c)
  unfold State.lineWriteAck
  split
  · refine ((State.restartWaiting_noneElsewhere ..).after ((emptied _).after ?_)).settle
    cases ack with
    | ok => exact .refl s c
    | busError => exact s.writeBusError_noneElsewhere c
  · exact .refl s

end

section
variable (s : State)

/-- R131: only the channels in the set of the removed head are let go, and they are tested. -/
theorem State.killAck_noneEnds (ack : Ack) : NoneEnds s (s.killAck ack) := by
  unfold State.killAck
  split
  · exact .refl s
  · next e rest entries =>
    split
    · refine .foldl_settle fun c hc => ((State.grantPlace_noneEnds _).chan c).after (.of_kept ?_ (fun e' he' hc' => ?_) ?_)
      · cases ack <;> exact .refl _
      · rw [entries, List.mem_cons] at he'
        rcases he' with rfl | he'
        · exact absurd hc' hc
        · exact ⟨e', he', hc'⟩
      · cases ack <;> exact .refl _ _
    · exact .refl s

/-! ## The bus -/

theorem ChannelKept.observe (a : Channel) (w : BusWrite) : ChannelKept a (a.observe w) := by
  refine ⟨.inl rfl, rfl, fun h h' => ⟨h, h'⟩, id, fun none r hr => ?_⟩
  have marked := none _ (by simp only [Channel.observe, hr, Option.map_some]; rfl)
  split at marked <;> exact marked

/-- R144: an observed write marks walks and line reads, and lets none go. -/
theorem State.observe_noneEnds (w : BusWrite) : NoneEnds s (s.observe w) := ⟨fun c => by
  refine .of_kept ?_ (fun e he hc => ⟨e, he, hc⟩) (.of_slots (fun i v hv => ?_) fun _ hq _ => hq)
  · rw [State.observe_chan]
    exact .observe ..
  · simp only [State.observe, State.mapChans_walk]
    rw [WalkUnit.markStale_slot, hv]
    refine ⟨_, rfl, ?_⟩
    dsimp only
    split <;> rfl⟩

theorem State.issue_noneEnds (r : Requester) : NoneEnds s (s.issue r) := by
  have recorded (b : BusMaster) : NoneEnds s { s with bus := b } := .of_eq rfl rfl rfl
  cases r with
  | walk i =>
    refine .after (.of_walk _ fun c => ?_) (recorded (s.bus.issue (.walk i)))
    refine .of_slots (fun j v hv => ?_) fun _ hq _ => hq
    simp only [WalkUnit.modSlot]
    rw [WalkUnit.slots_set]
    split
    · next hj => subst hj; exact ⟨_, congrArg (Option.map _) hv, rfl⟩
    · exact ⟨v, hv, rfl⟩
  | read c =>
    simp only [State.issue]
    refine .after (.modChan ⟨.inl rfl, rfl, fun h h' => ⟨h, h'⟩, id, fun none r hr => ?_⟩) (recorded _)
    have issued := none _ (congrArg (Option.map _) hr)
    cases issued
  | write c =>
    simp only [State.issue]
    exact (State.observe_noneEnds ..).after (.after (.modChan (.of_buffer _ nofun fun _ => rfl)) (recorded _))
  | kill =>
    simp only [State.issue]
    split
    · exact recorded _
    · next e rest entries =>
      refine ⟨fun c => .of_kept (.refl _) (fun e' he' hc => ?_) (.refl _ _)⟩
      rw [show s.inv.entries = e :: rest from entries, List.mem_cons] at he'
      rcases he' with rfl | he'
      · exact ⟨_, List.mem_cons_self .., hc⟩
      · exact ⟨e', List.mem_cons_of_mem _ he', hc⟩

theorem State.busGrant_noneEnds : NoneEnds s s.busGrant := by
  unfold State.busGrant
  repeat' split
  · exact s.issue_noneEnds _
  · exact .refl s
  · exact .refl s

theorem State.endResetting_noneEnds : NoneEnds s s.endResetting := by
  unfold State.endResetting
  split <;> exact .of_eq rfl rfl rfl

theorem State.complete_noneEnds (k : Completion) : NoneEnds s (s.complete k) := by
  have freed (id : Nat) : NoneEnds s (s.freeRecord id) := .of_eq rfl rfl rfl
  unfold State.complete
  split <;> split
  · exact (State.endResetting_noneEnds _).after ((State.walkReturn_noneEnds ..).after (freed _))
  · exact .refl s
  · exact (State.endResetting_noneEnds _).after ((State.lineReadReturn_noneEnds ..).after (freed _))
  · exact .refl s
  · exact (State.endResetting_noneEnds _).after ((State.lineWriteAck_noneEnds ..).after (freed _))
  · exact .refl s
  · exact (State.endResetting_noneEnds _).after ((State.killAck_noneEnds ..).after (freed _))
  · exact .refl s

/-! ## Ports and time -/

/-- R73: an ACTIVE channel whose transaction fails is FAULTED, with no transaction pending. -/
theorem State.failTransaction_noneEnds {c : Chan} (active : (s.chan c).state = .active) (k : Access) (a : ChanAddr)
    (x : Cause) (y : Answer) : NoneEnds s (s.failTransaction c k a x y) := ⟨fun d => by
  by_cases hd : d = c
  · subst hd
    obtain ⟨-, self, -⟩ := s.failTransaction_taken d k a x y
    rw [if_pos active] at self
    refine .of_off ?_ fun z hz => ?_
    · rw [self.2]; exact ⟨nofun, nofun⟩
    · rw [self.2] at hz; cases hz
  · exact (s.failTransaction_noneElsewhere c k a x y).chan d hd⟩

/-- R14 to R16, R58, R63: a request that is taken makes no condition true but that of a SYNC, which is tested. -/
theorem State.takeRequest_noneEnds {c : Chan} (txn : (s.chan c).txn = none) (r : Request) :
    NoneEnds s (s.takeRequest c r) := by
  by_cases accepted : (s.chan c).state = .active ∧ s.bridge = .running
  · cases ha : r.access? with
    | none =>
      simp only [State.takeRequest, if_pos accepted, ha]
      exact (((State.flushBuffer_noneEnds ..).elsewhere c).after (.modChan ..)).settle
    | some a =>
      obtain ⟨access, addr, size⟩ := a
      simp only [State.takeRequest, if_pos accepted, ha, State.acceptAccess]
      repeat' split
      · exact s.failTransaction_noneEnds accepted.1 ..
      · exact s.failTransaction_noneEnds accepted.1 ..
      · refine ⟨fun d => ?_⟩
        by_cases hd : d = c
        · subst hd
          refine .of_off ?_ fun z hz => ?_
          · rw [State.chan_modChan_self, accepted.1]; exact ⟨nofun, nofun⟩
          · rw [State.chan_modChan_self] at hz
            cases hz
            exact Request.ne_sync_of_access ha
        · exact (NoneElsewhere.modChan ..).chan d hd
  · rw [State.takeRequest, if_neg accepted]
    exact .modChan (.of_eq rfl (by rw [txn]) rfl rfl)

theorem State.portTake_noneEnds (c : Chan) : NoneEnds s (s.portTake c) := by
  unfold State.portTake
  split
  · next r rest txn _ =>
    exact (State.takeRequest_noneEnds _ (by simpa using txn) r).after (.modChan (.of_eq rfl rfl rfl rfl))
  · exact .refl s

theorem State.present_noneEnds (c : Chan) (r : Request) : NoneEnds s (s.present c r) := by
  unfold State.present
  exact .after (.unlessReset (State.portTake_noneEnds ..)) (.modChan (.of_eq rfl rfl rfl rfl))

theorem State.flushExpired_noneEnds : NoneEnds s s.flushExpired := by
  simp only [State.flushExpired]
  split
  · exact .foldl State.flushBuffer_noneEnds ..
  · exact .after (.foldl State.flushBuffer_noneEnds ..) (.of_eq rfl rfl rfl)

theorem ChannelKept.lowerTimer (a : Channel) : ChannelKept a a.lowerTimer := by
  unfold Channel.lowerTimer
  split
  · exact ⟨.inl rfl, rfl, fun h h' => ⟨h, h'⟩, id, id⟩
  · exact .refl a

theorem State.tick_noneEnds : NoneEnds s s.tick := by
  unfold State.tick
  split
  · exact .refl s
  · refine (State.flushExpired_noneEnds _).after ⟨fun c => .of_chan ?_ rfl rfl⟩
    rw [State.chan_mapChans]
    exact .lowerTimer _

theorem State.clockPeriod_noneEnds : NoneEnds s s.clockPeriod := by
  unfold State.clockPeriod
  repeat' split
  · exact .refl s
  · exact .of_eq rfl rfl rfl
  · exact s.tick_noneEnds

theorem State.expireTimer_noneEnds (c : Chan) : NoneEnds s (s.expireTimer c) := by
  unfold State.expireTimer
  split
  · exact s.flushBuffer_noneEnds c
  · exact .refl s

theorem State.idle_noneEnds : NoneEnds s s.idle := by
  refine .unlessReset ?_
  split
  · exact s.portTake_noneEnds _
  · exact s.clockPeriod_noneEnds

/-! ## Commands -/

theorem State.stopTransaction_noneElsewhere (c : Chan) : NoneElsewhere s (s.stopTransaction c) c := by
  simp only [State.stopTransaction]
  split
  · exact .refl s c
  · split
    · exact (NoneElsewhere.modChan ..).after (s.abortWalk_noneElsewhere c)
    all_goals exact .modChan ..

theorem State.discardBuffer_noneElsewhere (c : Chan) : NoneElsewhere s (s.discardBuffer c) c := by
  have cleared (waiters : List Chan) :
      NoneElsewhere s (({ s with inv := { s.inv with waiters := waiters } } : State).setBuffer c Buffer.cleared) c :=
    (NoneElsewhere.modChan ..).after (.of_eq rfl rfl rfl)
  simp only [State.discardBuffer]
  repeat' split
  · exact .refl s c
  · exact .refl s c
  · exact ((State.grantPlace_noneEnds _).elsewhere c).after (cleared _)
  · exact cleared _
  · exact ((State.grantPlace_noneEnds _).elsewhere c).after (cleared _)
  · exact cleared _

theorem State.abortChannel_noneEnds (c : Chan) : NoneEnds s (s.abortChannel c).1 := by
  by_cases running : (s.chan c).Running
  · rw [State.abortChannel_of_running running]
    dsimp only
    exact ((NoneElsewhere.modChan ..).after
      ((State.discardBuffer_noneElsewhere ..).after (s.stopTransaction_noneElsewhere c))).settle
  · rw [State.abortChannel_of_off (by cases h : (s.chan c).state <;> simp_all [Channel.Running])]
    exact .refl s

theorem State.disableChannel_noneEnds (c : Chan) : NoneEnds s (s.disableChannel c).1 := by
  by_cases on : (s.chan c).state = .active ∨ (s.chan c).state = .faulted
  · rw [State.disableChannel_of_on on]
    dsimp only
    exact ((NoneElsewhere.modChan ..).after ((s.flushBuffer_noneEnds c).elsewhere c)).settle
  · rw [State.disableChannel_of_not_on on]
    exact .refl s

/-- R66, R67: a channel turned ACTIVE. -/
theorem State.activated_noneEnds (c : Chan) : NoneEnds s (s.modChan c fun ch => { ch with state := .active }) :=
  .modChan ⟨.inr ⟨nofun, nofun⟩, rfl, fun h h' => ⟨h, h'⟩, id, id⟩

theorem State.enableChannel_noneEnds (c : Chan) : NoneEnds s (s.enableChannel c).1 := by
  simp only [State.enableChannel]
  repeat' split
  · exact s.activated_noneEnds c
  · exact .refl s
  · exact .refl s

theorem State.resumeChannel_noneEnds (c : Chan) : NoneEnds s (s.resumeChannel c).1 := by
  simp only [State.resumeChannel]
  split
  · exact s.activated_noneEnds c
  · exact .refl s

theorem State.dispatchCommand_noneEnds (n : CommandName) (channel : BitVec 4) (page : BitVec 14) :
    NoneEnds s (s.dispatchCommand n channel page) := by
  have completed {t : State} {o : CmdOutcome} (h : NoneEnds s t) : NoneEnds s (t.completeCommand n channel page o) :=
    .after (.of_eq (State.completeCommand_chans ..) (by simp) (by simp)) h
  cases n with
  | chEnable => exact completed (s.enableChannel_noneEnds _)
  | chDisable => exact completed (s.disableChannel_noneEnds _)
  | chResume => exact completed (s.resumeChannel_noneEnds _)
  | chAbort => exact completed (s.abortChannel_noneEnds _)
  | tagsClear => exact completed (.of_eq s.clearTags_chans (by simp) (by simp))
  | xlatFlushPage | xlatFlushChannel | xlatFlushAll | xlatProbe => exact .of_eq rfl rfl rfl

theorem State.command_noneEnds (n : CommandName) (channel : BitVec 4) (page : BitVec 14) :
    NoneEnds s (s.command n channel page) := by
  unfold State.command
  repeat' split
  · exact .of_eq rfl rfl rfl
  · exact .of_eq rfl rfl rfl
  · exact s.dispatchCommand_noneEnds ..
  · exact .of_eq rfl rfl rfl

theorem State.lookupService_noneEnds : NoneEnds s s.lookupService := by
  unfold State.lookupService
  split
  · exact (State.lookup_noneEnds ..).after (.of_eq rfl rfl rfl)
  · exact .refl s

/-- R51: a flush marks walks, and lets none go. -/
theorem State.commandService_noneEnds : NoneEnds s s.commandService := by
  unfold State.commandService
  split
  · refine .after ?_ (.of_eq (t := s.served .commandUnit) rfl rfl rfl)
    generalize s.served .commandUnit = u
    simp only [State.serveCommand]
    repeat' split
    · exact .refl u
    · exact .of_eq rfl rfl rfl
    · refine ⟨fun c => .of_kept (.refl _) (fun e he hc => ⟨e, he, hc⟩) (.of_slots (fun i v hv => ?_) fun _ hq _ => hq)⟩
      simp only [State.completeCommand_walk, State.flushTranslations]
      rw [WalkUnit.markStale_slot, hv]
      refine ⟨_, rfl, ?_⟩
      dsimp only
      split <;> rfl
  · exact .refl s

/-! ## Resets, the register window, and every command -/

/-- R79, R180: a reset leaves every channel DISABLED with no transaction pending. -/
theorem NoneEnds.of_reset {s t : State} (h : ∀ c, (t.chan c).state = .disabled ∧ (t.chan c).txn = none) : NoneEnds s t :=
  ⟨fun c => .of_off (by rw [(h c).1]; exact ⟨nofun, nofun⟩) fun x hx => by rw [(h c).2] at hx; cases hx⟩

theorem State.softReset_noneEnds : NoneEnds s s.softReset := by
  cases h : s.bridge with
  | resetting => rw [State.softReset_of_resetting h]; exact .refl s
  | running =>
    rw [State.softReset_of_running h]
    refine (State.endResetting_noneEnds _).after (.of_reset fun c => ?_)
    rw [State.resetBlocks, State.chan]
    simp [Channel.softReset]

theorem State.releaseReset_noneEnds (wsel1 wsel0 : Bool) : NoneEnds s (s.releaseReset wsel1 wsel0) :=
  ⟨fun c => .of_chan (by
    rw [State.releaseReset_chan, Channel.atRelease]
    split
    · exact .refl _
    · exact .of_eq rfl rfl rfl rfl) rfl rfl⟩

theorem State.writeDescriptor_noneEnds (c : Chan) (reg : DescReg) (value : Word) :
    NoneEnds s (s.writeDescriptor c reg value) := by
  unfold State.writeDescriptor
  split
  · exact .modChan (.of_eq rfl rfl rfl rfl)
  · exact .of_eq rfl rfl rfl

theorem State.writeReg_noneEnds (r : Reg) (value : Word) : NoneEnds s (s.writeReg r value) := by
  cases r with
  | ident | commandStatus | probeResult | shadowStatus | invalidateStatus | busStatus | faultHead0 | faultHead1
  | faultLogStatus | channelStatus => exact .refl s
  | timebase | globalStatus | intCause | intMask | channelOffSet | faultPop => exact .of_eq rfl rfl rfl
  | resetControl =>
    simp only [State.writeReg]
    split
    · exact s.softReset_noneEnds
    · exact .refl s
  | command =>
    simp only [State.writeReg, State.writeCommand]
    repeat' split
    · exact s.command_noneEnds ..
    · exact .of_eq rfl rfl rfl
    · exact .of_eq rfl rfl rfl
  | shadowControl => exact .of_eq (s.writeShadowControl_chans ..) (by simp [State.writeReg]) (by simp [State.writeReg])
  | desc c reg => exact s.writeDescriptor_noneEnds c reg value

theorem State.windowWrite_noneEnds (addr : Word) (lanes : BitVec 4) (value : Word) :
    NoneEnds s (s.windowWrite addr lanes value) := by
  unfold State.windowWrite
  repeat' split
  · exact s.writeReg_noneEnds ..
  · exact .refl s
  · exact .of_eq rfl rfl rfl
  · exact .refl s

end

/-- No command leaves a condition holding that did not hold before. -/
theorem exec_noneEnds (i : Instr) (s t : State) (h : exec i s = .next t) : NoneEnds s t := by
  have effect {f : State → State} (hf : ∀ s, NoneEnds s (f s)) : NoneEnds s (s.unlessReset f) := .unlessReset (hf s)
  cases i <;> cases h
  case read | write | sync => exact s.present_noneEnds ..
  case resetAssertion => exact effect fun s => .of_reset fun c => by rw [State.assertReset_chan]; exact ⟨rfl, rfl⟩
  case resetRelease =>
    split
    · exact s.releaseReset_noneEnds ..
    · exact .refl s
  case chEnable | chDisable | chResume | chAbort | xlatFlushPage | xlatFlushChannel | xlatFlushAll | xlatProbe
      | tagsClear => exact effect fun s => s.command_noneEnds ..
  case lookupService => exact effect State.lookupService_noneEnds
  case commandService => exact effect State.commandService_noneEnds
  case busGrant => exact effect State.busGrant_noneEnds
  case walkDataReturn | lineReadDataReturn | lineWriteAcknowledge | killAcknowledge | ignoredCompletion =>
    exact effect fun s => s.complete_noneEnds _
  case observedWrite => exact effect fun s => s.observe_noneEnds _
  case fill => exact effect fun s => .of_eq (s.takeFill_chans ..) (by simp) (by simp)
  case sweepStep => exact effect fun s => .of_eq s.takeSweepStep_chans (by simp) (by simp)
  case tick => exact effect State.tick_noneEnds
  case idleTimerExpiry => exact effect fun s => s.expireTimer_noneEnds _
  case softReset => exact effect State.softReset_noneEnds
  case modeWrite => exact effect fun s => .of_eq (s.writeShadowControl_chans ..) (by simp) (by simp)
  case descriptorWrite => exact effect fun s => s.writeDescriptor_noneEnds ..
  case registerWrite => exact effect fun s => s.windowWrite_noneEnds ..
  case faultPop | divisorWrite | wayMaskWrite | globalStatusClear | intCauseClear | channelOffClear | intMaskWrite =>
    exact effect fun _ => .of_eq rfl rfl rfl

theorem NoneEnds.settledLaw {s t : State} (h : NoneEnds s t) (settled : SettledLaw s) : SettledLaw t := by
  rw [settledLaw_iff] at settled ⊢
  exact fun c => ⟨fun ends => (settled c).1 ((h.chan c).sync ends), fun ends => (settled c).2 ((h.chan c).off ends)⟩

/-- Settles O59: what a step does not test it does not make true. -/
theorem noConditionLeftUntested : Obligations.NoConditionLeftUntested := fun _ _ settled h =>
  step_keeps (P := SettledLaw) (fun _ _ => id) (fun s => s.idle_noneEnds.settledLaw)
    (fun i s t settled h => (exec_noneEnds i s t h).settledLaw settled) settled h

end Sys2Proof.Machine
end

section
/-!
SUPPORT. What every command and the uncommanded step do to the queue and while `RESET#` is held (R58, R84, R180), and what
a port makes of a SYNC (R63); O2, O3, O4, O10 and O20.
-/

namespace Sys2Proof.Machine

/-! ## The uncommanded step -/

/-- R58: the ready port is the lowest-numbered one that can take a request it holds. -/
theorem State.readyPort_iff (s : State) (c : Chan) :
    s.readyPort = some c ↔
      ((s.chan c).txn = none ∧ (s.chan c).held ≠ []) ∧
        ∀ d, (s.chan d).txn = none → (s.chan d).held ≠ [] → c ≤ d := by
  have order : allChans.Pairwise fun a b => a.val < b.val := by decide
  rw [State.readyPort, find_eq_some_iff_least order (fun a => List.mem_finRange a)]
  simp

theorem State.readyPort_eq_none_iff (s : State) :
    s.readyPort = none ↔ ∀ c, (s.chan c).txn ≠ none ∨ (s.chan c).held = [] := by
  simp [State.readyPort, allChans, List.find?_eq_none, imp_iff_not_or]

theorem State.idle_of_released {s : State} (released : s.resetHeld = false) :
    s.idle = s.readyPort.elim s.clockPeriod s.portTake := by
  rw [State.idle, State.unlessReset_of_not_held released]
  cases s.readyPort <;> rfl

/-- Settles O2: the ready port takes its first request; with none ready the timebase counts. -/
theorem stepOnEmptyQueue : Obligations.StepOnEmptyQueue := by
  intro s queue
  have idles : step s = .next s.idle := by simp only [step, queue]
  rw [idles]
  refine ⟨fun held => ?_, fun c r rest released txn requests lower => ?_, fun released none => ?_⟩
  · rw [State.idle, State.unlessReset_of_held held]
  · have ready : s.readyPort = some c := by
      refine (s.readyPort_iff c).mpr ⟨⟨txn, by rw [requests]; nofun⟩, fun d free holds => ?_⟩
      by_contra below
      exact (lower d (by simpa using below)).elim (fun busy => busy free) holds
    rw [State.idle_of_released released, ready]
    simp only [Option.elim_some, State.portTake, txn, requests]
  · rw [State.idle_of_released released, s.readyPort_eq_none_iff.mpr none, exec_tick,
      State.unlessReset_of_not_held released]
    simp only [Option.elim_none, State.clockPeriod]
    repeat' split
    all_goals rfl

/-! ## The queue -/

theorem State.windowWrite_pending (s : State) (addr : Word) (lanes : BitVec 4) (value : Word) :
    (s.windowWrite addr lanes value).pending = s.pending := by
  have reg (r : Reg) : (s.writeReg r value).pending = s.pending := by
    cases r with
    | resetControl =>
      simp only [State.writeReg]
      split
      · simp
      · rfl
    | _ => simp [State.writeReg]
  unfold State.windowWrite
  repeat' split
  · exact reg _
  all_goals rfl

/-- Settles O3: no operation touches the queue. -/
theorem everyCommandCompletes : Obligations.EveryCommandCompletes := by
  have effect {s : State} {f : State → State} (h : (f s).pending = s.pending) :
      (s.unlessReset f).pending = s.pending := State.unlessReset_keeps (P := fun s t => t.pending = s.pending) rfl fun _ => h
  intro i s
  cases i <;> refine ⟨_, rfl, ?_⟩
  case read | write | sync => simp
  case resetRelease => split <;> rfl
  case registerWrite => exact effect (s.windowWrite_pending ..)
  case resetAssertion | faultPop | divisorWrite | wayMaskWrite | globalStatusClear | intCauseClear | channelOffClear
      | intMaskWrite => exact effect rfl
  all_goals exact effect (by simp)

/-- Settles O4: while `RESET#` is held a command's effect does not take place, and a port takes nothing. -/
theorem nothingHappensInReset : Obligations.NothingHappensInReset := by
  intro i s held other
  have still (f : State → State) : Host.Outcome.next (s.unlessReset f) = (.next s : Result) := by
    rw [State.unlessReset_of_held held]
  have waits (c : Chan) (r : Request) : s.present c r = s.modChan c fun ch => { ch with held := ch.held ++ [r] } := by
    unfold State.present
    exact State.unlessReset_of_held (by simpa using held) _
  cases i
  case resetRelease => exact absurd rfl (other _ _)
  case read | write | sync => exact congrArg Host.Outcome.next (waits ..)
  all_goals exact still _

/-! ## SYNC at a port (R63) -/

/-- R63: a SYNC that a port has taken, in WAIT_SYNC. -/
def syncWaiting : Transaction := { request := .sync, phase := .waitSync, translation := none, writeErrorSeen := false }

theorem exec_sync_of_accepted {s : State} {c : Chan} (free : PortFree s c) (active : (s.chan c).state = .active)
    (running : s.bridge = .running) :
    exec (.sync c) s = .next (((s.begun c syncWaiting).flushBuffer c).settle c) := by
  rw [exec_sync, State.present_of_portFree free, State.takeRequest, if_pos ⟨active, running⟩]
  rfl

/-- R69, R71: the conditions of an ACTIVE or FAULTED channel are that of its SYNC. -/
theorem State.settle_of_on {s : State} {c : Chan}
    (on : (s.chan c).state = .active ∨ (s.chan c).state = .faulted) :
    s.settle c = s.trySync c := by
  refine (s.settle_eq c).2 ?_
  rintro (⟨draining, -⟩ | ⟨aborting, -⟩)
  · simp [draining] at on
  · simp [aborting] at on

/-- Settles O10: the SYNC's condition is the one before its flush, which leaves no buffer EMPTY. -/
theorem syncTaken : Obligations.SyncTaken := by
  intro c s free active running
  have begun : (s.begun c syncWaiting).chan c = { s.chan c with txn := some syncWaiting } := State.chan_modChan_self ..
  have condition : SyncEnds (s.begun c syncWaiting) c ↔ SyncCondition s c := by
    rw [SyncEnds, SyncCondition, begun]
    exact and_iff_right ⟨_, rfl, rfl⟩
  rw [exec_sync_of_accepted free active running]
  refine ⟨fun empty unheld unlisted => ?_, fun waits => ?_⟩
  · have still : (s.begun c syncWaiting).flushBuffer c = s.begun c syncWaiting :=
      State.flushBuffer_of_not_filling (by rw [begun]; exact fun filling => absurd (empty.symm.trans filling) nofun)
    have ends := condition.mpr ⟨empty, unheld, unlisted⟩
    rw [still, State.settle_of_on (by rw [begun]; exact .inl active), State.trySync_of_ends (by rw [begun]) ends,
      State.begun_answer, State.answer_eq_setChan, State.modChan_eq_setChan]
    have txn : ({ s.chan c with txn := none } : Channel) = s.chan c := by rw [← free.2.1]
    conv_rhs => rw [← txn]
    rfl
  · have fails : ¬ SyncEnds ((s.begun c syncWaiting).flushBuffer c) c := fun ends => by
      obtain ⟨empty, unheld, unlisted⟩ := condition.mp (((State.flushBuffer_noneEnds ..).chan c).sync ends)
      rcases waits with full | held | ⟨e, he, hc⟩
      · exact full empty
      · exact unheld held
      · exact unlisted e he hc
    have self := (s.begun c syncWaiting).flushBuffer_chan_self c
    have places : s.placesInUse = (s.begun c syncWaiting).placesInUse := State.placesInUse_congr rfl fun d => by
      rw [State.begun, State.chan_modChan]
      split
      · next hd => subst hd; rfl
      · rfl
    rw [begun] at self
    rw [State.settle_of_on (by rw [self]; exact .inl active), State.trySync_of_not_ends fails]
    refine ⟨_, rfl, ((State.flushBuffer_flushed ..).congr ?_ rfl rfl rfl rfl places), self, fun d hd => ?_, ?_⟩
    · rw [begun]
    · rw [State.flushBuffer_chan_ne _ hd, State.begun, State.chan_modChan_ne _ (Ne.symm hd)]
    · exact State.flushBuffer_eq ..

/-! ## A WRITE at its buffer (R62, R81, R82, R76) -/

/-- Settles O20: the buffer's state and line decide between the merge and the wait. -/
theorem writeReachesBuffer : Obligations.WriteReachesBuffer := fun c addr data tr s => s.placeWrite_reached c addr data tr

end Sys2Proof.Machine
end

section
/-!
SUPPORT. The data return of a line read that is not discarded (R59, R69, R73, R75, R96); O26.
-/

namespace Sys2Proof.Machine

/-- R146: a completion of a line read is handed to its channel; in RUNNING the bus master's report changes nothing. -/
theorem exec_lineReadDataReturn_of_record {s : State} {id : Nat} {c : Chan} (released : s.resetHeld = false)
    (running : s.bridge = .running) (hrec : s.bus.recordOf id = some { id, requester := .read c }) (result : LineResult) :
    exec (.lineReadDataReturn id result) s = .next ((s.freeRecord id).lineReadReturn c result) := by
  rw [exec_lineReadDataReturn, State.unlessReset_of_not_held released]
  simp only [State.complete, hrec]
  rw [State.endResetting_of_running (by simpa using running)]

section
variable {s : State} {c : Chan} {r : LineRead} {x : Transaction} {addr : ChanAddr} {size : Size}
  (hr : (s.chan c).lineRead = some r) (issued : r.issued = true) (kept : r.discard = false)
  (hx : (s.chan c).txn = some x) (read : x.request = .read addr size)
include hr issued kept hx read

/-- R96: the READ answered from the returned line, the line retained where it may be, and the line read ended. -/
theorem State.lineReadReturn_of_line {tr : Translation} (ht : x.translation = some tr) (d : LineData) :
    s.lineReadReturn c (.line d) =
      (s.modChan c fun ch =>
        { ch with
          txn := none
          answers := ch.answers ++ [.done ((d.toList.drop tr.pos.toNat).take size.bytes)]
          lineRead := none
          readAhead :=
            if ch.state = .active ∧ ch.desc.readAhead = true ∧ r.stalePending = false then
              some { line := r.line, data := d }
            else ch.readAhead }).settle c := by
  obtain ⟨request, phase, translation, seen⟩ := x
  subst read ht
  simp only [State.lineReadReturn, hr, issued, kept, Bool.true_eq_false, Bool.false_eq_true, if_false]
  simp only [State.modChan_eq_setChan, State.setChan_setChan, State.chan_setChan_self, State.answerRead, hx,
    State.answer_eq_setChan, Channel.retain, bytesAt]

/-- R96, R73: the READ fails, and the line read is ended. -/
theorem State.lineReadReturn_of_busError :
    s.lineReadReturn c .busError = ((s.freeLineRead c).failTransaction c .read addr .readBusErr .dataError).settle c := by
  obtain ⟨request, phase, translation, seen⟩ := x
  subst read
  simp only [State.lineReadReturn, hr, issued, kept, hx, Bool.true_eq_false, Bool.false_eq_true, if_false,
    State.freeLineRead]

end

/-- Settles O26: the READ is answered or fails, and the conditions are tested, which only matters outside ACTIVE and FAULTED. -/
theorem lineReadReturns : Obligations.LineReadReturns := by
  refine ⟨fun id c r d x addr size tr s released running hrec hr issued kept hx read ht => ?_,
    fun id c r x addr size s released running hrec hr issued kept hx read => ?_⟩
  · refine ⟨_, (exec_lineReadDataReturn_of_record released running hrec _).trans (congrArg _
      (State.lineReadReturn_of_line (s := s.freeRecord id) hr issued kept hx read ht d)), State.settle_tested .., fun on => ?_⟩
    rw [State.settle_of_on (by rw [State.chan_modChan_self]; exact on),
      State.trySync_of_no_transaction (by rw [State.chan_modChan_self])]
  · have taken := ((s.freeRecord id).freeLineRead c).failTransaction_taken c .read addr .readBusErr .dataError
    refine ⟨_, _, (exec_lineReadDataReturn_of_record released running hrec _).trans (congrArg _
      (State.lineReadReturn_of_busError (s := s.freeRecord id) hr issued kept hx read)), taken, State.settle_tested ..,
      fun on => (taken.served (.read addr size)).settle_eq nofun ?_⟩
    rw [State.freeLineRead_chan_self]
    exact on

end Sys2Proof.Machine
end

section
/-!
SUPPORT. What the acknowledge of a line write makes of the reservation (R89 step 2, R109 to R114, R125 to R127).
-/

namespace Sys2Proof.Machine

/-! ## The shadow lookup -/

theorem Shadow.matchesAt_iff (sh : Shadow) (line : Word) (w : Way) :
    sh.matchesAt line w = true ↔
      sh.wayMask.getLsbD w.val = true ∧ (sh.sets[setOf line][w].any fun e => e.tag == tagOf line) = true := by
  rw [Shadow.matchesAt, Shadow.enabled, Bool.and_eq_true]
  cases sh.sets[setOf line][w] <;> rfl

theorem State.owesKill_iff (s : State) (line : Word) :
    s.shadow.owesKill line (s.hasEntryFor line) = true ↔ LookupQueues s line := by
  have tracked : s.shadow.holds line = true ↔ ∃ (w : Way) (e : ShadowEntry), s.shadow.wayMask.getLsbD w.val = true ∧
      s.shadow.sets[setOf line][w] = some e ∧ e.tag = tagOf line := by
    simp [Shadow.holds, Shadow.matchesAt_iff, Option.any_eq_true]
  have queued : s.hasEntryFor line = true ↔ ∃ e ∈ s.inv.entries, e.line = line := by simp [State.hasEntryFor]
  unfold Shadow.owesKill LookupQueues
  cases s.shadow.mode <;> simp [tracked, queued]

theorem Shadow.clearMatches_getElem (sh : Shadow) (line : Word) (set : Fin 256) (w : Way) :
    (sh.clearMatches line).sets[set][w] =
      if set = setOf line ∧ sh.matchesAt line w = true then none else sh.sets[set][w] := by
  by_cases same : set = setOf line
  · subst same
    simp [Shadow.clearMatches]
  · have apart : (setOf line).val ≠ set.val := fun h => same (Fin.ext h.symm)
    simp [Shadow.clearMatches, same, Vector.getElem_set_ne, apart]

theorem StoreAfterLookup.of_afterLookup {s t : State} {line : Word} (h : t.shadow = s.shadow.afterLookup line) :
    StoreAfterLookup s t line := by
  unfold Shadow.afterLookup at h
  cases mode : s.shadow.mode with
  | track =>
    simp only [mode] at h
    refine ⟨fun set w => ?_, by rw [h]; rfl⟩
    rw [h, Shadow.clearMatches_getElem, mode]
    by_cases same : set = setOf line
    · subst same
      simp [Shadow.matchesAt_iff]
    · simp [same]
  | off | broadcast =>
    simp only [mode] at h
    exact ⟨by simp [h, mode], by rw [h]⟩

/-! ## The end of the reservation -/

theorem State.hasUnissued_iff (s : State) (line : Word) :
    s.hasUnissued line = true ↔ ∃ e ∈ s.inv.entries, e.line = line ∧ e.issued = false := by
  simp [State.hasUnissued]

/-- R127: the merge adds the writer to the entries of its line that are not issued. -/
theorem merged_eq_joined (entries : List InvEntry) (line : Word) (c : Chan) :
    (entries.map fun e => if e.line = line ∧ e.issued = false then e.add c else e) = joined entries line c := by
  refine List.map_congr_left fun e _ => ?_
  split
  · unfold InvEntry.add
    split <;> rfl
  · rfl

/-- R125, R126: with no more than 8 places in use a reservation that ends leaves a place for the head waiter. -/
theorem State.releaseReservation_freed {s : State} {c : Chan} (places : PlacesLaw s)
    (held : (s.chan c).buffer.reservation = .held) : PlaceFreed (s.endReservation c) (s.releaseReservation c) :=
  State.grantPlace_freed fun _ => by
    have one := State.placesInUse_endReservation held
    unfold PlacesLaw at places
    omega

/-- R127: everything the result queue does with a reservation. -/
theorem State.queueInvalidate_resolved {s : State} {c : Chan} (places : PlacesLaw s)
    (held : (s.chan c).buffer.reservation = .held) (line : Word) :
    let ended := fun entries : List InvEntry =>
      ({ s with inv := { s.inv with entries := entries } } : State).endReservation c
    ((∃ e ∈ s.inv.entries, e.line = line ∧ e.issued = false) →
        PlaceFreed (ended (Machine.joined s.inv.entries line c)) (s.queueInvalidate c line)) ∧
      ((¬ ∃ e ∈ s.inv.entries, e.line = line ∧ e.issued = false) →
        s.queueInvalidate c line = ended (s.inv.entries ++ [{ line := line, chans := [c], issued := false }])) := by
  refine ⟨fun merges => ?_, fun appends => ?_⟩
  · simp only [State.queueInvalidate, if_pos (s.hasUnissued_iff line |>.mpr merges), merged_eq_joined]
    refine State.releaseReservation_freed ?_ held
    have length : (Machine.joined s.inv.entries line c).length = s.inv.entries.length := List.length_map ..
    simp only [PlacesLaw, State.placesInUse, length]
    exact places
  · exact if_neg (mt (s.hasUnissued_iff line).mp appends)

theorem State.resolveReservation_shadow {s : State} {c : Chan} (held : (s.chan c).buffer.reservation = .held) :
    (s.resolveReservation c).shadow = s.shadow.afterLookup (s.chan c).buffer.line := by
  simp only [State.resolveReservation, if_pos held]
  split <;> simp

/-- R89 step 2: everything the acknowledge makes of the reservation. -/
theorem State.resolveReservation_resolved {s : State} (places : PlacesLaw s) (c : Chan) :
    ReservationResolved s (s.resolveReservation c) c := by
  unfold ReservationResolved
  split
  case isFalse unheld => exact if_neg unheld
  case isTrue held =>
  have shadow := State.resolveReservation_shadow held
  refine ⟨.of_afterLookup shadow, ?_⟩
  rw [shadow]
  let looked : State := { s with shadow := s.shadow.afterLookup (s.chan c).buffer.line }
  have owes := s.owesKill_iff (s.chan c).buffer.line
  have queue := State.queueInvalidate_resolved (s := looked) places held (s.chan c).buffer.line
  have release := State.releaseReservation_freed (s := looked) places held
  have resolved : s.resolveReservation c =
      if s.shadow.owesKill (s.chan c).buffer.line (s.hasEntryFor (s.chan c).buffer.line) = true then
        looked.queueInvalidate c (s.chan c).buffer.line else looked.releaseReservation c := if_pos held
  by_cases queues : LookupQueues s (s.chan c).buffer.line
  · rw [resolved, if_pos (owes.mpr queues)]
    exact ⟨fun none => absurd queues none, fun _ => queue.1, fun _ => queue.2⟩
  · rw [resolved, if_neg (mt owes.mp queues)]
    exact ⟨fun _ => release, fun h => absurd h queues, fun h => absurd h queues⟩

/-! ## What the resolution leaves of every channel -/

/-- Every channel is as it was but for the reservation of its buffer. -/
def OnlyReservations (s t : State) : Prop :=
  ∀ d, t.chan d =
    { s.chan d with buffer := { (s.chan d).buffer with reservation := (t.chan d).buffer.reservation } }

theorem OnlyReservations.after {s t u : State} (h : OnlyReservations t u) (h' : OnlyReservations s t) :
    OnlyReservations s u := fun d => by
  rw [h d, h' d]

theorem State.endReservation_onlyReservations (s : State) (c : Chan) : OnlyReservations s (s.endReservation c) := fun d => by
  rw [State.endReservation, State.chan_setBuffer]
  split
  · next same => subst same; rfl
  · rfl

theorem State.releaseReservation_onlyReservations (s : State) (c : Chan) : OnlyReservations s (s.releaseReservation c) :=
  .after (s.endReservation c).grantPlace_chan (s.endReservation_onlyReservations c)

theorem State.resolveReservation_onlyReservations (s : State) (c : Chan) : OnlyReservations s (s.resolveReservation c) := by
  simp only [State.resolveReservation, State.queueInvalidate]
  repeat' split
  · exact fun d => State.releaseReservation_onlyReservations _ c d
  · exact fun d => State.endReservation_onlyReservations _ c d
  · exact fun d => State.releaseReservation_onlyReservations _ c d
  · exact fun _ => rfl

theorem State.grantPlace_eq (s : State) : s.grantPlace = { s with chans := s.grantPlace.chans, inv := s.grantPlace.inv } := by
  simp only [State.grantPlace]
  repeat' split
  all_goals rfl

theorem State.resolveReservation_eq (s : State) (c : Chan) :
    s.resolveReservation c =
      { s with
        chans := (s.resolveReservation c).chans, shadow := (s.resolveReservation c).shadow
        inv := (s.resolveReservation c).inv } := by
  have released (t : State) : t.releaseReservation c =
      { t with chans := (t.releaseReservation c).chans, inv := (t.releaseReservation c).inv } :=
    State.grantPlace_eq _
  simp only [State.resolveReservation, State.queueInvalidate]
  repeat' split
  · rw [released]
  · rfl
  · rw [released]
  · rfl

end Sys2Proof.Machine
end

section
/-!
SUPPORT. What the emptied buffer makes of a waiting transaction (R89 step 4), the acknowledge of a line write in its steps
(R89, R90), and the bridge state, which no step of it looks at (R146, R174); O27 and O31.
-/

namespace Sys2Proof.Machine

/-! ## A transaction taken again (R89 step 4) -/

section
variable {s t : State} {c : Chan}

/-- R89 step 4: everything the emptied buffer makes of a transaction in WAIT_BUFFER. -/
theorem State.restartWaiting_restarted (s : State) (c : Chan) : Restarted s (s.restartWaiting c) c := by
  refine ⟨fun x tr hx phase carried => ⟨fun addr data write => ?_, fun addr size read => ?_⟩, fun others => ?_⟩
  · obtain ⟨request, phase, translation, seen⟩ := x
    subst phase carried write
    simp only [State.restartWaiting, hx]
    exact s.placeWrite_reached ..
  · obtain ⟨request, phase, translation, seen⟩ := x
    subst phase carried read
    simp only [State.restartWaiting, hx]
    exact s.placeRead_reached ..
  · unfold State.restartWaiting
    split
    · next hx => exact absurd (others _ _ hx rfl rfl) nofun
    · next hx => exact absurd (others _ _ hx rfl rfl) nofun
    · rfl

/-- What a READ or WRITE that goes to its buffer or to the read path can change: of its channel the transaction, the
answers, the buffer and the line read, and beside the channel the invalidate queue. -/
structure AccessPlaced (s t : State) (c : Chan) : Prop where
  self : t.chan c =
    { s.chan c with
      txn := (t.chan c).txn, answers := (t.chan c).answers, buffer := (t.chan c).buffer
      lineRead := (t.chan c).lineRead }
  others : ∀ d, d ≠ c → t.chan d = s.chan d
  rest : t = { s with chans := t.chans, inv := t.inv }

theorem WaitsForBuffer.placed {tr : Translation} (h : WaitsForBuffer s t c tr) : AccessPlaced s t c := by
  obtain ⟨-, self, others, rest⟩ := h
  exact ⟨by rw [self], others, rest⟩

/-- An update of the channel alone that keeps what no access changes. -/
theorem AccessPlaced.modChan {f : Channel → Channel}
    (kept : f (s.chan c) =
      { s.chan c with
        txn := (f (s.chan c)).txn, answers := (f (s.chan c)).answers, buffer := (f (s.chan c)).buffer
        lineRead := (f (s.chan c)).lineRead }) : AccessPlaced s (s.modChan c f) c := by
  refine ⟨?_, fun d hd => State.chan_modChan_ne s (Ne.symm hd) f, rfl⟩
  rw [State.chan_modChan_self]
  exact kept

theorem ReadReached.placed {size : Size} {tr : Translation} (h : ReadReached s t c size tr) : AccessPlaced s t c := by
  obtain ⟨waits, answered, requested⟩ := h
  by_cases own : (s.chan c).buffer.state ≠ .empty ∧ (s.chan c).buffer.line = tr.line
  · exact (waits own).placed
  by_cases line : (s.chan c).state = .active ∧ (s.chan c).desc.readAhead = true ∧
      ∃ d, (s.chan c).readAhead = some { line := tr.line, data := d }
  · obtain ⟨active, enabled, d, hd⟩ := line
    rw [answered d own active enabled hd]
    exact .modChan rfl
  · rw [requested own line]
    exact .modChan rfl

theorem WriteReached.placed {addr : ChanAddr} {data : WriteData} {tr : Translation} (h : WriteReached s t c addr data tr) :
    AccessPlaced s t c := by
  obtain ⟨merges, waits⟩ := h
  by_cases merge : (s.chan c).buffer.state = .empty ∨
      ((s.chan c).buffer.state = .filling ∧ (s.chan c).buffer.line = tr.line)
  · obtain ⟨m, -, -, -, -, self, others, rest⟩ := merges merge
    exact ⟨by rw [self], others, rest⟩
  · refine (waits ?_).placed
    cases hb : (s.chan c).buffer.state <;> simp_all

theorem State.restartWaiting_placed (s : State) (c : Chan) : AccessPlaced s (s.restartWaiting c) c := by
  unfold State.restartWaiting
  split
  · exact (s.placeWrite_reached ..).placed
  · exact (s.placeRead_reached ..).placed
  · exact ⟨rfl, fun _ _ => rfl, rfl⟩

/-- R89 step 4: only a READ or WRITE in WAIT_BUFFER is taken again. -/
theorem State.restartWaiting_of_none (h : (s.chan c).txn = none) : s.restartWaiting c = s :=
  (s.restartWaiting_restarted c).2 fun _ _ hx => absurd (h.symm.trans hx) nofun

theorem State.restartWaiting_of_sync {x : Transaction} (hx : (s.chan c).txn = some x) (sync : x.request = .sync) :
    s.restartWaiting c = s :=
  (s.restartWaiting_restarted c).2 fun _ _ hy _ _ => Option.some.inj (hx.symm.trans hy) ▸ sync

end

/-! ## The bridge state plays no part -/

section
variable {s t : State} {c : Chan}

theorem ConditionsTested.withBridge (h : ConditionsTested s t c) (b : BridgeState) :
    ConditionsTested { s with bridge := b } { t with bridge := b } c :=
  let ⟨sync, disables, stays, self, others, frame⟩ := h
  ⟨sync, disables, stays, self, others, congrArg (fun u : State => { u with bridge := b }) frame⟩

theorem WriteErrorTaken.withBridge (h : WriteErrorTaken s t c) (b : BridgeState) :
    WriteErrorTaken { s with bridge := b } { t with bridge := b } c :=
  let ⟨logged, self, others, frame⟩ := h
  ⟨logged, self, others, congrArg (fun u : State => { u with bridge := b }) frame⟩

theorem PlaceFreed.withBridge (h : PlaceFreed s t) (b : BridgeState) :
    PlaceFreed { s with bridge := b } { t with bridge := b } := by
  unfold PlaceFreed at h ⊢
  cases waiters : s.inv.waiters with
  | nil =>
    simp only [waiters] at h ⊢
    rw [h]
  | cons d rest =>
    simp only [waiters] at h ⊢
    obtain ⟨self, others, frame⟩ := h
    exact ⟨self, others, congrArg (fun u : State => { u with bridge := b }) frame⟩

theorem ReservationResolved.withBridge (h : ReservationResolved s t c) (b : BridgeState) :
    ReservationResolved { s with bridge := b } { t with bridge := b } c := by
  unfold ReservationResolved at h ⊢
  by_cases held : (s.chan c).buffer.reservation = .held
  · rw [if_pos held] at h
    rw [if_pos (by exact held)]
    obtain ⟨store, releases, merges, appends⟩ := h
    exact ⟨store, fun releasing => (releases releasing).withBridge b,
      fun queues entry => (merges queues entry).withBridge b,
      fun queues none => congrArg (fun u : State => { u with bridge := b }) (appends queues none)⟩
  · rw [if_neg held] at h
    rw [if_neg (by exact held), h]

theorem WaitsForBuffer.withBridge {tr : Translation} (h : WaitsForBuffer s t c tr) (b : BridgeState) :
    WaitsForBuffer { s with bridge := b } { t with bridge := b } c tr :=
  let ⟨flushed, self, others, frame⟩ := h
  ⟨flushed, self, others, congrArg (fun u : State => { u with bridge := b }) frame⟩

theorem WriteReached.withBridge {addr : ChanAddr} {data : WriteData} {tr : Translation}
    (h : WriteReached s t c addr data tr) (b : BridgeState) :
    WriteReached { s with bridge := b } { t with bridge := b } c addr data tr :=
  ⟨fun merges =>
    let ⟨m, merged, timer, flushes, stays, self, others, frame⟩ := h.1 merges
    ⟨m, merged, timer, flushes, stays, self, others, congrArg (fun u : State => { u with bridge := b }) frame⟩,
    fun waits => (h.2 waits).withBridge b⟩

theorem ReadReached.withBridge {size : Size} {tr : Translation} (h : ReadReached s t c size tr) (b : BridgeState) :
    ReadReached { s with bridge := b } { t with bridge := b } c size tr :=
  let ⟨waits, answered, requested⟩ := h
  ⟨fun own => (waits own).withBridge b,
    fun d other active enabled line =>
      congrArg (fun u : State => { u with bridge := b }) (answered d other active enabled line),
    fun other noLine => congrArg (fun u : State => { u with bridge := b }) (requested other noLine)⟩

theorem Restarted.withBridge (h : Restarted s t c) (b : BridgeState) :
    Restarted { s with bridge := b } { t with bridge := b } c :=
  ⟨fun x tr hx phase carried =>
    let ⟨writes, reads⟩ := h.1 x tr hx phase carried
    ⟨fun addr data write => (writes addr data write).withBridge b,
      fun addr size read => (reads addr size read).withBridge b⟩,
    fun others => congrArg (fun u : State => { u with bridge := b }) (h.2 others)⟩

theorem Acknowledged.withBridge (h : Acknowledged s t c) (b : BridgeState) :
    Acknowledged { s with bridge := b } { t with bridge := b } c :=
  let ⟨_, _, resolved, restarted, tested⟩ := h
  ⟨_, _, resolved.withBridge b, restarted.withBridge b, tested.withBridge b⟩

end

/-! ## The acknowledge of a line write, in its steps -/

/-- R89 steps 2 to 5. -/
def State.acknowledged (s : State) (c : Chan) : State :=
  (((s.resolveReservation c).setBuffer c Buffer.cleared).restartWaiting c).settle c

theorem State.acknowledged_acknowledged {s : State} (places : PlacesLaw s) (c : Chan) : Acknowledged s (s.acknowledged c) c :=
  ⟨_, _, State.resolveReservation_resolved places c, State.restartWaiting_restarted .., State.settle_tested ..⟩

section
variable {s : State} {id : Nat} {c : Chan} (released : s.resetHeld = false)
  (hrec : s.bus.recordOf id = some { id, requester := .write c }) (writing : (s.chan c).buffer.state = .writing)
include released hrec

/-- R146: a completion of a line write is handed to its channel. -/
theorem exec_lineWriteAcknowledge_of_record (ack : Ack) :
    exec (.lineWriteAcknowledge id ack) s = .next ((s.freeRecord id).lineWriteAck c ack).endResetting := by
  rw [exec_lineWriteAcknowledge, State.unlessReset_of_not_held released]
  simp only [State.complete, hrec]

include writing

theorem exec_lineWriteAcknowledge_ok :
    exec (.lineWriteAcknowledge id .ok) s = .next ((s.freeRecord id).acknowledged c).endResetting := by
  rw [exec_lineWriteAcknowledge_of_record released hrec, State.lineWriteAck, if_pos (by exact writing)]
  rfl

theorem exec_lineWriteAcknowledge_busError :
    exec (.lineWriteAcknowledge id .busError) s =
      .next (((s.freeRecord id).writeBusError c).acknowledged c).endResetting := by
  rw [exec_lineWriteAcknowledge_of_record released hrec, State.lineWriteAck, if_pos (by exact writing)]
  rfl

end

end Sys2Proof.Machine
end

section
/-!
SUPPORT. The acknowledge of a line write of a channel that is ACTIVE or FAULTED (R64, R74, R76, R89, R90), and O27 and O31.
-/

namespace Sys2Proof.Machine

/-- R146, R174: the acknowledge may end RESETTING, which plays no part in its steps. -/
theorem Acknowledged.endResetting {s t : State} {c : Chan} (h : Acknowledged s t c) :
    Acknowledged { s with bridge := t.endResetting.bridge } t.endResetting c := by
  have ended := h.withBridge t.endResetting.bridge
  rwa [← t.endResetting_eq] at ended

/-! ## An acknowledge without bus error (R89) -/

section
variable {s : State} {id : Nat} {c : Chan}

theorem State.acknowledged_of_unheld (free : (s.chan c).buffer.reservation ≠ .held) :
    s.acknowledged c = ((s.setBuffer c Buffer.cleared).restartWaiting c).settle c := by
  rw [State.acknowledged, State.resolveReservation, if_neg free]

/-- R89: with no reservation held, a READ or WRITE that waits for the buffer is taken again, and no condition is to be
tested. -/
theorem exec_lineWriteAcknowledge_restarted (released : s.resetHeld = false) (running : s.bridge = .running)
    (hrec : s.bus.recordOf id = some { id, requester := .write c }) (writing : (s.chan c).buffer.state = .writing)
    (free : (s.chan c).buffer.reservation ≠ .held) {r : Request} (access : r ≠ .sync)
    (served : AccessServed (s.emptied id c) ((s.emptied id c).restartWaiting c) c r)
    (on : (s.chan c).state = .active ∨ (s.chan c).state = .faulted) :
    exec (.lineWriteAcknowledge id .ok) s = .next ((s.emptied id c).restartWaiting c) := by
  have acked : (s.freeRecord id).acknowledged c = (s.emptied id c).restartWaiting c := by
    rw [State.acknowledged_of_unheld (by exact free)]
    exact served.settle_eq access (by rw [State.emptied_chan_self]; exact on)
  rw [exec_lineWriteAcknowledge_ok released hrec writing, acked, State.endResetting_of_running]
  simpa [State.emptied] using running

end

/-- R76, R81, R82: the buffer that a WRITE opens; the bytes of one WRITE do not fill it, so that it is flushed at once only
outside ACTIVE. -/
theorem WriteReached.opened {s t : State} {c : Chan} {addr : ChanAddr} {data : WriteData} {tr : Translation}
    (h : WriteReached s t c addr data tr) (empty : (s.chan c).buffer.state = .empty) :
    ((t.chan c).buffer.line = tr.line ∧ (t.chan c).buffer.lineStart = lineStartOf addr ∧
        (t.chan c).buffer.coh = tr.coh ∧
        (t.chan c).buffer.state = if (s.chan c).state = .active then .filling else .pending) ∧
      t.chan c =
        { s.chan c with txn := none, answers := (s.chan c).answers ++ [.done []], buffer := (t.chan c).buffer } ∧
      (∀ d, d ≠ c → t.chan d = s.chan d) ∧ t = { s with chans := t.chans, inv := t.inv } := by
  obtain ⟨m, ⟨state, line, bytes, coh, lineStart, -⟩, -, flushes, stays, placed⟩ := h.1 (.inl empty)
  refine ⟨?_, placed⟩
  simp only [empty, reduceCtorEq, if_false, false_and, or_false] at bytes coh lineStart
  have unfilled : ¬ ∀ k : Fin 16, m.mask[k] = true := fun full => by
    obtain ⟨k, outside⟩ := exists_outside_of_size tr.pos.toNat data.size
    obtain ⟨-, -, masked⟩ := bytes k
    exact outside (masked.mp (full k))
  have sameCoh : m.coh = tr.coh := Bool.eq_iff_iff.mpr coh
  by_cases active : (s.chan c).state = .active
  · obtain ⟨buffer, -⟩ := stays (not_or.mpr ⟨unfilled, not_not.mpr active⟩)
    rw [buffer, if_pos active]
    exact ⟨line, lineStart, sameCoh, state⟩
  · have flushed := flushes (.inr active)
    simp only [Flushed, State.chan_modChan_self, state, if_true] at flushed
    rw [flushed.1, if_neg active]
    exact ⟨line, lineStart, sameCoh, rfl⟩

/-- Settles O27: the acknowledge in its steps; a WRITE opens the emptied buffer, a READ asks for its line. -/
theorem ackEmptiesAndRestarts : Obligations.AckEmptiesAndRestarts := by
  refine ⟨fun id c s released running hrec writing free on txn => ?_,
    fun id c x tr s released running hrec writing free on hx phase carried => ?_,
    fun id c s released places hrec writing => ?_⟩
  · have self := s.emptied_chan_self id c
    rw [exec_lineWriteAcknowledge_emptied released running hrec writing free txn,
      State.settle_of_on (by rw [self]; exact on), State.trySync_of_no_transaction (by rw [self]; exact txn)]
    rfl
  · have self := s.emptied_chan_self id c
    have waiting : ((s.emptied id c).chan c).txn = some x := by rw [self]; exact hx
    obtain ⟨writes, reads⟩ := ((s.emptied id c).restartWaiting_restarted c).1 x tr waiting phase carried
    refine ⟨fun addr data write => ?_, fun addr size read noLine => ?_⟩
    · have reached := writes addr data write
      obtain ⟨⟨line, lineStart, coh, state⟩, channel, others, frame⟩ := reached.opened (by rw [self]; rfl)
      rw [self] at state channel
      exact ⟨_, exec_lineWriteAcknowledge_restarted released running hrec writing free (write ▸ nofun)
        (reached.served waiting) on, line, lineStart, coh, state, channel,
        fun d hd => (others d hd).trans (State.chan_modChan_ne _ (Ne.symm hd) _), frame⟩
    · have reached := reads addr size read
      rw [exec_lineWriteAcknowledge_restarted released running hrec writing free (read ▸ nofun)
        (reached.served waiting) on]
      obtain ⟨-, -, requested⟩ := reached
      rw [self] at requested
      rw [requested (by simp [Buffer.cleared]) (by simp [noLine])]
      have again : (s.chan c).txn.map (fun y => { y with phase := .waitRead, translation := some tr }) =
          some { x with phase := .waitRead } := by rw [hx, ← carried]; rfl
      simp only [State.emptied, State.setBuffer, State.modChan_eq_setChan, State.setChan_setChan,
        State.chan_setChan_self]
      rw [← again]
      rfl
  · exact ⟨_, exec_lineWriteAcknowledge_ok released hrec writing,
      (State.acknowledged_acknowledged (s := s.freeRecord id) places c).endResetting⟩

/-! ## An acknowledge with a bus error (R64, R74, R90) -/

section
variable {s t : State} {c : Chan}

/-- R90: the fault of a line write takes and frees no place. -/
theorem WriteErrorTaken.placesInUse (h : WriteErrorTaken s t c) : t.placesInUse = s.placesInUse := by
  obtain ⟨-, self, others, frame⟩ := h
  refine State.placesInUse_congr (by rw [frame]) fun d => ?_
  by_cases hd : d = c
  · rw [hd, self]
  · rw [others d hd]

/-- R89 steps 2 and 3: the reservation resolved and the buffer EMPTY. -/
def State.vacated (s : State) (c : Chan) : State := (s.resolveReservation c).setBuffer c Buffer.cleared

theorem State.vacated_chan_self : (s.vacated c).chan c = { s.chan c with buffer := Buffer.cleared } := by
  rw [State.vacated, State.setBuffer, State.chan_modChan_self, s.resolveReservation_onlyReservations c c]

theorem State.vacated_chan_ne {d : Chan} (hd : d ≠ c) :
    (s.vacated c).chan d =
      { s.chan d with
        buffer := { (s.chan d).buffer with reservation := ((s.vacated c).chan d).buffer.reservation } } := by
  rw [State.vacated, State.setBuffer, State.chan_modChan_ne _ (Ne.symm hd)]
  exact s.resolveReservation_onlyReservations c d

theorem State.vacated_eq :
    s.vacated c =
      { s with chans := (s.vacated c).chans, shadow := (s.vacated c).shadow, inv := (s.vacated c).inv } := by
  conv_lhs => rw [State.vacated, State.resolveReservation_eq]
  rfl

/-- R89 step 5: for a channel that is ACTIVE or FAULTED its SYNC alone is tested. -/
theorem State.acknowledged_of_on (on : (s.chan c).state = .active ∨ (s.chan c).state = .faulted) :
    s.acknowledged c = ((s.vacated c).restartWaiting c).trySync c := by
  refine State.settle_of_on (s := (s.vacated c).restartWaiting c) ?_
  rw [((s.vacated c).restartWaiting_placed c).self, State.vacated_chan_self]
  exact on

/-- What the acknowledge of a line write of an ACTIVE or FAULTED channel can change. -/
theorem State.acknowledged_frame (on : (s.chan c).state = .active ∨ (s.chan c).state = .faulted) :
    ((s.acknowledged c).chan c).state = (s.chan c).state ∧ ((s.acknowledged c).chan c).readAhead = (s.chan c).readAhead ∧
      (∀ d, d ≠ c → (s.acknowledged c).chan d =
        { s.chan d with
          buffer := { (s.chan d).buffer with reservation := ((s.acknowledged c).chan d).buffer.reservation } }) ∧
      s.acknowledged c =
        { s with
          chans := (s.acknowledged c).chans, shadow := (s.acknowledged c).shadow, inv := (s.acknowledged c).inv } := by
  have placed := (s.vacated c).restartWaiting_placed c
  rw [State.acknowledged_of_on on]
  refine ⟨?_, ?_, fun d hd => ?_, ?_⟩
  · rw [State.trySync_chan_self, placed.self, State.vacated_chan_self]
  · rw [State.trySync_chan_self, placed.self, State.vacated_chan_self]
  · rw [State.trySync_chan_ne _ hd, placed.others d hd]
    exact State.vacated_chan_ne hd
  · have vacated := State.vacated_eq (s := s) (c := c)
    have tested := ((s.vacated c).restartWaiting c).trySync_eq c
    have again := placed.rest
    generalize ((s.vacated c).restartWaiting c).trySync c = t at tested ⊢
    generalize (s.vacated c).restartWaiting c = w at tested again
    rw [tested, again, vacated]

/-- R89 step 4: a transaction that is not taken again finds its buffer EMPTY and its SYNC tested. -/
theorem State.acknowledged_of_not_restarted (on : (s.chan c).state = .active ∨ (s.chan c).state = .faulted)
    (same : (s.vacated c).restartWaiting c = s.vacated c) :
    ((s.acknowledged c).chan c).buffer = Buffer.cleared ∧ SyncTested (s.vacated c) (s.acknowledged c) c := by
  rw [State.acknowledged_of_on on, same]
  refine ⟨?_, State.trySync_tested ..⟩
  rw [State.trySync_chan_self, State.vacated_chan_self]

theorem State.acknowledged_of_none (on : (s.chan c).state = .active ∨ (s.chan c).state = .faulted)
    (none : (s.chan c).txn = none) :
    ((s.acknowledged c).chan c).buffer = Buffer.cleared ∧ ((s.acknowledged c).chan c).txn = .none := by
  have still : ((s.vacated c).chan c).txn = .none := by rw [State.vacated_chan_self]; exact none
  obtain ⟨buffer, tested⟩ := State.acknowledged_of_not_restarted on (State.restartWaiting_of_none still)
  exact ⟨buffer, tested.txn_none_iff.mpr (.inl still)⟩

/-- R63, R64: a SYNC waits on, or is answered by what it has seen. -/
theorem State.acknowledged_of_sync (on : (s.chan c).state = .active ∨ (s.chan c).state = .faulted) {x : Transaction}
    (hx : (s.chan c).txn = some x) (sync : x.request = .sync) :
    ((s.acknowledged c).chan c).buffer = Buffer.cleared ∧
      ((((s.acknowledged c).chan c).txn = some x ∧ ((s.acknowledged c).chan c).answers = (s.chan c).answers) ∨
        (((s.acknowledged c).chan c).txn = none ∧
          ((s.acknowledged c).chan c).answers =
            (s.chan c).answers ++ [if x.writeErrorSeen = true then .fault else .done []])) := by
  have self := State.vacated_chan_self (s := s) (c := c)
  have waiting : ((s.vacated c).chan c).txn = some x := by rw [self]; exact hx
  obtain ⟨buffer, ended, kept⟩ := State.acknowledged_of_not_restarted on (State.restartWaiting_of_sync waiting sync)
  have answers : ((s.vacated c).chan c).answers = (s.chan c).answers := by rw [self]
  rw [waiting, answers] at kept
  rw [answers] at ended
  exact ⟨buffer, (em (SyncEnds (s.vacated c) c)).symm.imp kept (ended x waiting)⟩

end

/-- Settles O31: the fault of the line write, and then the steps of every acknowledge on a channel that it left FAULTED. -/
theorem ackBusError : Obligations.AckBusError := by
  refine ⟨fun id c s released hrec writing on => ?_, fun id c s released places hrec writing => ?_⟩
  · have taken := State.writeBusError_taken (s := s.freeRecord id) writing
    refine ⟨_, exec_lineWriteAcknowledge_busError released hrec writing, ?_⟩
    generalize (s.freeRecord id).writeBusError c = u at taken
    obtain ⟨logged, self, others, frame⟩ := taken
    have faulted : (u.chan c).state = .faulted := by
      rw [self]
      exact on.elim (fun active => if_pos active) fun faulted => ite_eq_left_iff.mpr fun _ => faulted
    obtain ⟨state, readAhead, rest, whole⟩ := State.acknowledged_frame (s := u) (.inr faulted)
    have cleared := State.acknowledged_of_none (s := u) (c := c) (.inr faulted)
    have sync (x : Transaction) := State.acknowledged_of_sync (s := u) (c := c) (x := x) (.inr faulted)
    rw [State.endResetting_eq]
    generalize (u.acknowledged c).endResetting.bridge = b
    generalize u.acknowledged c = t at state readAhead rest whole cleared sync ⊢
    have log : t.log = u.log := by rw [whole]
    have ints : t.ints = u.ints := by rw [whole]
    rw [frame, ← log, ← ints] at whole
    refine ⟨?_, state.trans faulted, fun active => ?_, fun gone => cleared ?_, fun x hx request => ?_, fun d hd => ?_, ?_⟩
    · simp only [Logged, log, ints]
      exact logged
    · refine readAhead.trans ?_
      rw [self]
      exact if_pos active
    · rw [self]
      exact congrArg (Option.map _) gone
    · have marked : (u.chan c).txn = some { x with writeErrorSeen := true } := by
        rw [self]
        refine (congrArg (Option.map _) hx).trans ?_
        simp [request]
      have answers : (u.chan c).answers = (s.chan c).answers := by rw [self]; rfl
      rw [← answers]
      exact sync _ marked request
    · have same := rest d hd
      rw [others d hd] at same
      exact same
    · exact congrArg (fun t : State => { t with bridge := b }) whole
  · have taken := State.writeBusError_taken (s := s.freeRecord id) writing
    have places' : PlacesLaw ((s.freeRecord id).writeBusError c) := by
      rw [PlacesLaw, taken.placesInUse]
      exact places
    exact ⟨_, _, exec_lineWriteAcknowledge_busError released hrec writing, taken.withBridge _,
      (State.acknowledged_acknowledged places' c).endResetting⟩

end Sys2Proof.Machine
end

section
/-!
SUPPORT. Writes of the shadow mode, the way mask and the timebase divisor (R84, R106, R107, R166); O41.
-/

namespace Sys2Proof.Machine

section
variable {m : BitVec 2}

theorem modeOfBits_of_code {mode : ShadowMode} (h : m.toNat = mode.code) : modeOfBits m = some mode := by
  obtain rfl : m = BitVec.ofNat 2 mode.code := by rw [← h, BitVec.ofNat_toNat, BitVec.setWidth_eq]
  cases mode <;> rfl

theorem modeOfBits_of_three (h : m.toNat = 3) : modeOfBits m = none := by
  obtain rfl : m = 3 := BitVec.eq_of_toNat_eq h
  rfl

variable (s : State) (mask : BitVec 8)

theorem State.writeShadowControl_of_code {mode : ShadowMode} (h : m.toNat = mode.code) :
    s.writeShadowControl m mask = { s with shadow := { s.shadow with mode := mode, wayMask := mask } } := by
  simp only [State.writeShadowControl, modeOfBits_of_code h]

theorem State.writeShadowControl_of_three (h : m.toNat = 3) : s.writeShadowControl m mask = s.raiseBadWrite := by
  simp only [State.writeShadowControl, modeOfBits_of_three h]

end

theorem lowByte_eq_ofNat (value : Word) : value.extractLsb' 0 8 = BitVec.ofNat 8 (value.toNat % 256) :=
  BitVec.eq_of_toNat_eq (by simp)

/-- Settles O41: the mode field names a mode or none; the mask and the divisor take every value. -/
theorem modeMaskAndDivisorWrites : Obligations.ModeMaskAndDivisorWrites := by
  refine ⟨fun m mask s released => ⟨fun mode names => ?_, fun three => ?_, ?_⟩, fun value s released => ?_⟩
  · rw [exec_modeWrite, State.unlessReset_of_not_held released, State.writeShadowControl_of_code _ _ names]
  · rw [exec_modeWrite, State.unlessReset_of_not_held released, State.writeShadowControl_of_three _ _ three]
    rfl
  · rw [exec_wayMaskWrite, State.unlessReset_of_not_held released]
  · rw [exec_divisorWrite, State.unlessReset_of_not_held released, State.writeDivisor, lowByte_eq_ofNat]

end Sys2Proof.Machine
end

section
/-!
SUPPORT. Ticks of the timebase (R83, R85, R87, R123, R124): the timers lowered, and the buffers whose timers run out
flushed one after another; O42 and O43.
-/

namespace Sys2Proof.Machine

/-! ## The timers lowered (R85) -/

section
variable {ch : Channel}

theorem Channel.timerCounts_iff : ch.timerCounts = true ↔ ch.buffer.state = .filling ∧ ch.desc.idleTimeout ≠ 0 := by
  simp [Channel.timerCounts]

theorem Channel.lowerTimer_of_counts (filling : ch.buffer.state = .filling) (on : ch.desc.idleTimeout ≠ 0) :
    ch.lowerTimer = { ch with buffer := { ch.buffer with timer := ch.buffer.timer - 1 } } :=
  if_pos (Channel.timerCounts_iff.mpr ⟨filling, on⟩)

theorem Channel.lowerTimer_of_stands (stands : ch.buffer.state ≠ .filling ∨ ch.desc.idleTimeout = 0) :
    ch.lowerTimer = ch :=
  if_neg fun counts => by
    obtain ⟨filling, on⟩ := Channel.timerCounts_iff.mp counts
    exact stands.elim (· filling) on

theorem Channel.lowerTimer_eq (ch : Channel) :
    ch.lowerTimer = { ch with buffer := { ch.buffer with timer := ch.lowerTimer.buffer.timer } } := by
  unfold Channel.lowerTimer
  split <;> rfl

theorem Channel.expired_lowerTimer_iff :
    ch.lowerTimer.expired = true ↔
      ch.buffer.state = .filling ∧ ch.desc.idleTimeout ≠ 0 ∧ ch.buffer.timer ≤ 1 := by
  by_cases counts : ch.buffer.state = .filling ∧ ch.desc.idleTimeout ≠ 0
  · obtain ⟨filling, on⟩ := counts
    simp only [Channel.lowerTimer_of_counts filling on, Channel.expired, Bool.and_eq_true, Channel.timerCounts_iff,
      beq_iff_eq, Nat.sub_eq_zero_iff_le, and_assoc]
  · rw [Channel.lowerTimer_of_stands (by tauto), Channel.expired, Bool.and_eq_true, Channel.timerCounts_iff]
    tauto

end

/-- R85: the buffer's timer runs out on the next tick. -/
def State.Expires (s : State) (c : Chan) : Prop :=
  (s.chan c).buffer.state = .filling ∧ (s.chan c).desc.idleTimeout ≠ 0 ∧ (s.chan c).buffer.timer ≤ 1

/-- R84, R85: the tick taken and the timers lowered, before the buffers whose timers run out are flushed; `n` counts the
free values drawn. -/
def State.lowered (s : State) (n : Nat) : State :=
  { s.mapChans fun _ ch => ch.lowerTimer with time := { s.time with count := 0 }, freeCount := n }

section
variable {s : State} {c : Chan} {n : Nat}

theorem State.lowered_chan : (s.lowered n).chan c = (s.chan c).lowerTimer := State.chan_mapChans ..

theorem State.lowered_chan_eq :
    (s.lowered n).chan c =
      { s.chan c with buffer := { (s.chan c).buffer with timer := ((s.lowered n).chan c).buffer.timer } } := by
  rw [State.lowered_chan, ← Channel.lowerTimer_eq]

theorem State.lowered_placesInUse : (s.lowered n).placesInUse = s.placesInUse :=
  State.placesInUse_congr rfl fun c => by rw [State.lowered_chan_eq]

theorem State.mem_expiredChans_lowered : c ∈ (s.lowered n).expiredChans ↔ s.Expires c := by
  rw [State.expiredChans, List.mem_filter, State.lowered_chan, Channel.expired_lowerTimer_iff]
  exact and_iff_right (List.mem_finRange c)

/-- R85: the order in which several buffers are flushed is a free value; each is flushed once. -/
theorem State.flushExpired_eq_foldl (s : State) :
    ∃ (cs : List Chan) (n : Nat), cs.Perm s.expiredChans ∧
      s.flushExpired = cs.foldl State.flushBuffer { s with freeCount := n } := by
  simp only [State.flushExpired]
  split
  · exact ⟨s.expiredChans, s.freeCount, .refl _, rfl⟩
  · exact ⟨_, _, pickOrder_perm .., rfl⟩

theorem State.tick_eq_foldl (running : s.time.divisor ≠ 0) :
    ∃ (cs : List Chan) (n : Nat), cs.Nodup ∧ (∀ c, c ∈ cs ↔ s.Expires c) ∧
      s.tick = cs.foldl State.flushBuffer (s.lowered n) := by
  obtain ⟨cs, n, perm, flushed⟩ := (s.lowered s.freeCount).flushExpired_eq_foldl
  have once : (s.lowered s.freeCount).expiredChans.Nodup := (List.nodup_finRange 8).filter _
  exact ⟨cs, n, perm.nodup_iff.mpr once, fun c => perm.mem_iff.trans State.mem_expiredChans_lowered,
    (if_neg running).trans flushed⟩

end

/-! ## Several buffers flushed (R83, R87, R123) -/

/-- R83, R87: channel `c`'s FILLING buffer has gone to PENDING and has made its reservation decision, in which it holds a
place or waits for one exactly when it needs one; nothing else of the channel has changed. -/
def Decided (s t : State) (c : Chan) : Prop :=
  let b := (s.chan c).buffer
  let b' := (t.chan c).buffer
  t.chan c = { s.chan c with buffer := { b with state := .pending, timer := 0, reservation := b'.reservation } } ∧
    (b.coh = false ∨ s.shadow.mode = .off → b'.reservation = .none) ∧
    (b.coh = true ∧ s.shadow.mode ≠ .off → b'.reservation = .held ∨ b'.reservation = .waiting)

theorem Flushed.decided {s t : State} {c : Chan} (h : Flushed s t c) (filling : (s.chan c).buffer.state = .filling)
    (self : t.chan c = { s.chan c with buffer := (t.chan c).buffer }) : Decided s t c := by
  simp only [Flushed, filling, if_true] at h
  obtain ⟨buffer, decision⟩ := h
  refine ⟨by rw [← buffer]; exact self, fun needless => ?_, fun needed => ?_⟩
  · rw [if_pos needless] at decision
    exact decision.1
  · rw [if_neg (not_or.mpr ⟨by simp [needed.1], needed.2⟩)] at decision
    split at decision
    · exact .inl decision.1
    · exact .inr decision.1

theorem Decided.congr {s s' t t' : State} {c : Chan} (h : Decided s t c)
    (chan : s.chan c = { s'.chan c with buffer := { (s'.chan c).buffer with timer := (s.chan c).buffer.timer } })
    (mode : s.shadow.mode = s'.shadow.mode) (chan' : t'.chan c = t.chan c) : Decided s' t' c := by
  unfold Decided at h ⊢
  rw [chan, mode] at h
  rw [chan']
  exact h

/-- R83: the timer of a buffer plays no part in its flush. -/
theorem Flushed.of_timer {s s' t : State} {c : Chan} (h : Flushed s' t c) (filling : (s.chan c).buffer.state = .filling)
    (buffer : (s'.chan c).buffer = { (s.chan c).buffer with timer := (s'.chan c).buffer.timer }) (inv : s'.inv = s.inv)
    (mode : s'.shadow.mode = s.shadow.mode) (places : s'.placesInUse = s.placesInUse) : Flushed s t c := by
  unfold Flushed at h ⊢
  rw [buffer, inv, mode, places] at h
  simp only [filling, if_true] at h ⊢
  exact h

theorem State.foldl_flushBuffer_decided {cs : List Chan} {s : State} (nd : cs.Nodup)
    (filling : ∀ c ∈ cs, (s.chan c).buffer.state = .filling) {c : Chan} (hc : c ∈ cs) :
    Decided s (cs.foldl State.flushBuffer s) c := by
  induction cs generalizing s with
  | nil => cases hc
  | cons d cs ih =>
    obtain ⟨fresh, nd'⟩ := List.nodup_cons.mp nd
    have kept (e : Chan) (he : e ∈ cs) : (s.flushBuffer d).chan e = s.chan e :=
      State.flushBuffer_chan_ne s fun same => fresh (same ▸ he)
    have filling' (e : Chan) (he : e ∈ cs) : ((s.flushBuffer d).chan e).buffer.state = .filling := by
      rw [kept e he]
      exact filling e (List.mem_cons_of_mem d he)
    rw [List.foldl_cons]
    rcases List.mem_cons.mp hc with rfl | later
    · obtain ⟨rest, -⟩ := State.foldl_flushBuffer_joins cs (s.flushBuffer c) nd' filling'
      exact ((s.flushBuffer_flushed c).decided (filling c hc) (s.flushBuffer_chan_self c)).congr rfl rfl (rest c fresh)
    · exact (ih nd' filling' later).congr (by rw [kept c later]) (by simp) rfl

theorem State.foldl_flushBuffer_eq (cs : List Chan) (s : State) :
    cs.foldl State.flushBuffer s =
      { s with chans := (cs.foldl State.flushBuffer s).chans, inv := (cs.foldl State.flushBuffer s).inv } := by
  induction cs generalizing s with
  | nil => rfl
  | cons c cs ih =>
    have first := s.flushBuffer_eq c
    have later := ih (s.flushBuffer c)
    rw [List.foldl_cons]
    generalize cs.foldl State.flushBuffer (s.flushBuffer c) = t at later ⊢
    rw [later, first]

/-! ## A tick (R85) -/

section
variable {s : State} {c : Chan} (running : s.time.divisor ≠ 0)
include running

theorem State.tick_eq : s.tick =
    { s with
      chans := s.tick.chans, inv := s.tick.inv, time := { s.time with count := 0 }, freeCount := s.tick.freeCount } := by
  obtain ⟨cs, n, -, -, ticked⟩ := State.tick_eq_foldl running
  have frame := State.foldl_flushBuffer_eq cs (s.lowered n)
  rw [← ticked] at frame
  have drawn : s.tick.freeCount = n := by rw [frame]; rfl
  rw [drawn]
  exact frame

/-- R83, R85: what a tick does with the channels whose timers run out, and what it leaves of the others. -/
theorem State.tick_joins :
    (∀ c, ¬ s.Expires c → s.tick.chan c = (s.chan c).lowerTimer) ∧
      (∀ c, s.Expires c → Decided s s.tick c) ∧
      ∃ joining : List Chan,
        s.tick.inv = { s.inv with waiters := s.inv.waiters ++ joining } ∧ joining.Nodup ∧
          (∀ c, c ∈ joining ↔ s.Expires c ∧ (s.tick.chan c).buffer.reservation = .waiting) ∧
          ((∀ c, s.Expires c → (s.chan c).buffer.reservation ≠ .held) → s.placesInUse ≤ 8 →
            s.tick.placesInUse ≤ 8 ∧ (joining ≠ [] → s.tick.placesInUse = 8)) := by
  obtain ⟨cs, n, nd, expires, ticked⟩ := State.tick_eq_foldl running
  have filling (c : Chan) (hc : c ∈ cs) : ((s.lowered n).chan c).buffer.state = .filling := by
    rw [State.lowered_chan_eq]
    exact ((expires c).mp hc).1
  obtain ⟨kept, joining, inv, once, joins, places⟩ :=
    State.foldl_flushBuffer_joins cs (s.lowered n) nd filling
  have decided (c : Chan) (hc : c ∈ cs) := State.foldl_flushBuffer_decided nd filling hc
  rw [← ticked] at kept inv joins places decided
  refine ⟨fun c stands => (kept c (mt (expires c).mp stands)).trans State.lowered_chan,
    fun c hc => (decided c ((expires c).mpr hc)).congr State.lowered_chan_eq rfl rfl, joining, inv, once,
    fun c => by rw [joins, expires], fun unheld law => ?_⟩
  have unheld' (c : Chan) (hc : c ∈ cs) : ((s.lowered n).chan c).buffer.reservation ≠ .held := by
    rw [State.lowered_chan_eq]
    exact unheld c ((expires c).mp hc)
  obtain ⟨most, -, full⟩ := places unheld' (State.lowered_placesInUse.le.trans law)
  exact ⟨most, full⟩

/-- R85: a tick changes of a channel its buffer alone. -/
theorem State.tick_chan_eq (c : Chan) : s.tick.chan c = { s.chan c with buffer := (s.tick.chan c).buffer } := by
  obtain ⟨kept, decided, -⟩ := State.tick_joins running
  by_cases expires : s.Expires c
  · obtain ⟨self, -⟩ := decided c expires
    rw [self]
  · rw [kept c expires, Channel.lowerTimer_eq]

/-- R83, R87, R123: a buffer that alone expires on the tick makes the decision of a flush. -/
theorem State.tick_flushed_of_alone (expires : s.Expires c) (alone : ∀ d, s.Expires d → d = c) :
    Flushed s s.tick c := by
  obtain ⟨cs, n, nd, mem, ticked⟩ := State.tick_eq_foldl running
  have only (d : Chan) : d ∈ cs ↔ d ∈ [c] := by
    rw [mem, List.mem_singleton]
    exact ⟨alone d, fun same => same ▸ expires⟩
  have single : cs = [c] := List.perm_singleton.mp ((List.perm_ext_iff_of_nodup nd (List.nodup_singleton c)).mpr only)
  have flushed := State.flushBuffer_flushed (s.lowered n) c
  rw [ticked, single, List.foldl_cons, List.foldl_nil]
  refine flushed.of_timer expires.1 ?_ rfl rfl State.lowered_placesInUse
  exact congrArg Channel.buffer State.lowered_chan_eq

end

theorem exec_tick_of_released {s : State} (released : s.resetHeld = false) : exec .tick s = .next s.tick := by
  rw [exec_tick, State.unlessReset_of_not_held released]

/-- Settles O42: the timers lowered, and the buffers whose timers run out flushed in turn. -/
theorem tickAndIdleTimerExpiry : Obligations.TickAndIdleTimerExpiry := by
  refine ⟨fun s released running => ?_, fun c s released running on filling one => ?_⟩
  · obtain ⟨kept, decided, joining, inv, once, joins, places⟩ := State.tick_joins running
    have frame := State.tick_eq running
    have time : s.tick.time = { s.time with count := 0 } := by rw [frame]
    refine ⟨_, exec_tick_of_released released, time,
      fun c => ⟨State.tick_chan_eq running c, fun filling on later => ?_, fun filling on now => ?_, fun stands => ?_⟩,
      fun c expires alone => State.tick_flushed_of_alone running expires alone,
      ⟨joining, inv, once, joins, fun law => ?_⟩, ?_⟩
    · have stands : ¬ s.Expires c := fun expires => absurd expires.2.2 (by omega)
      rw [kept c stands, Channel.lowerTimer_of_counts filling on]
    · obtain ⟨self, needless, needed⟩ := decided c ⟨filling, on, now⟩
      exact ⟨congrArg Channel.buffer self, needless, needed⟩
    · have lasts : ¬ s.Expires c := fun expires => stands.elim (· expires.1) expires.2.1
      rw [kept c lasts, Channel.lowerTimer_of_stands stands]
    · obtain ⟨held, -, -, -, -, most⟩ := law
      refine places (fun c expires reserved => ?_) most
      rcases held c reserved with state | state <;> rw [expires.1] at state <;> cases state
    · rw [time]
      exact frame
  · refine ⟨s.flushBuffer c, ?_, s.flushBuffer_flushed c, ?_, s.flushBuffer_chan_self c,
      fun d hd => s.flushBuffer_chan_ne hd, s.flushBuffer_eq c⟩
    · rw [exec_idleTimerExpiry, State.unlessReset_of_not_held released]
      exact congrArg _ (if_pos ⟨running, Channel.timerCounts_iff.mpr ⟨filling, on⟩, one.le⟩)
    · rw [State.flushBuffer_buffer_state, if_pos filling]

/-- Settles O43: by induction on the ticks; the tick that finds the timer at 1 flushes the buffer. -/
theorem timerExpiresAtItsTick : Obligations.TimerExpiresAtItsTick := by
  intro c k s released running filling on
  induction k generalizing s with
  | zero => exact fun started _ => ⟨s, rfl, rfl, filling.trans (if_pos started).symm⟩
  | succ k ih =>
    intro started within
    obtain ⟨kept, decided, -⟩ := State.tick_joins running
    have taken : execTimes .tick (k + 1) s = execTimes .tick k s.tick := by
      rw [execTimes, exec_tick_of_released released]
    rw [taken]
    by_cases last : (s.chan c).buffer.timer ≤ 1
    · obtain ⟨self, -⟩ := decided c ⟨filling, on, last⟩
      obtain rfl : k = 0 := by omega
      refine ⟨s.tick, rfl, ?_, ?_⟩ <;> rw [self]
      · exact (Nat.sub_eq_zero_of_le last).symm
      · exact (if_neg (by omega)).symm
    · have lowered := (kept c fun expires => last expires.2.2).trans (Channel.lowerTimer_of_counts filling on)
      have goesOn : s.tick.time.divisor ≠ 0 := by
        rw [State.tick_eq running]
        exact running
      have after := ih s.tick (by simpa using released) goesOn
      simp only [lowered] at after
      obtain ⟨t, ticks, timer, state⟩ := after filling on (by omega) (by omega)
      exact ⟨t, ticks, timer.trans (by omega), state.trans (if_congr (by omega) rfl rfl)⟩

end Sys2Proof.Machine
end

section
/-!
SUPPORT. What the acknowledge of a line write as a whole, with or without bus error, makes of the queued entries, of the
shadow tag store and of the waiters (R89, R90, R109 to R114, R123, R127, R128); O28.
-/

namespace Sys2Proof.Machine

/-! ## The queued entries at an acknowledge (R89 step 2, R127) -/

/-- R89 step 2, R127: `entries` are what the acknowledge of channel `c`'s reservation makes of the queued entries. -/
def EntriesResolved (s : State) (c : Chan) (entries : List InvEntry) : Prop :=
  let line := (s.chan c).buffer.line
  let merges := ∃ e ∈ s.inv.entries, e.line = line ∧ e.issued = false
  (LookupQueues s line → merges → entries = joined s.inv.entries line c) ∧
    (LookupQueues s line → ¬ merges → entries = s.inv.entries ++ [{ line := line, chans := [c], issued := false }]) ∧
    (¬ LookupQueues s line → entries = s.inv.entries)

theorem State.resolveReservation_entries {s : State} {c : Chan} (held : (s.chan c).buffer.reservation = .held) :
    EntriesResolved s c (s.resolveReservation c).inv.entries := by
  unfold EntriesResolved
  intro line merges
  let entries := (s.resolveReservation c).inv.entries
  let looked : State := { s with shadow := s.shadow.afterLookup line }
  have owes := s.owesKill_iff line
  have unissued : looked.hasUnissued line = true ↔ merges := looked.hasUnissued_iff line
  have resolved : s.resolveReservation c =
      if s.shadow.owesKill line (s.hasEntryFor line) = true then looked.queueInvalidate c line
      else looked.releaseReservation c := if_pos held
  have queued (queues : LookupQueues s line) : entries = (looked.queueInvalidate c line).inv.entries :=
    congrArg (fun t : State => t.inv.entries) (resolved.trans (if_pos (owes.mpr queues)))
  refine ⟨fun queues merge => ?_, fun queues alone => ?_, fun releases => ?_⟩
  · exact (queued queues).trans (by rw [State.queueInvalidate_entries, if_pos (unissued.mpr merge), merged_eq_joined])
  · exact (queued queues).trans (by rw [State.queueInvalidate_entries, if_neg (mt unissued.mp alone)])
  · have released : entries = (looked.releaseReservation c).inv.entries :=
      congrArg (fun t : State => t.inv.entries) (resolved.trans (if_neg (mt owes.mp releases)))
    exact released.trans (State.releaseReservation_entries ..)

/-! ## The waiters after an emptied buffer is opened again (R89 step 4, R123) -/

/-- R123: channel `c`'s buffer has joined the tail of the waiters when it now waits, and else the queue is as it was. -/
def JoinsIfWaiting (s t : State) (c : Chan) : Prop :=
  t.inv =
    { s.inv with
      waiters := if (t.chan c).buffer.reservation = .waiting then s.inv.waiters ++ [c] else s.inv.waiters }

section
variable {s t : State} {c : Chan}

theorem JoinsIfWaiting.of_inv (inv : t.inv = s.inv) (settled : (t.chan c).buffer.reservation ≠ .waiting) :
    JoinsIfWaiting s t c := by
  rw [JoinsIfWaiting, if_neg settled, inv]

theorem JoinsIfWaiting.entries (h : JoinsIfWaiting s t c) : t.inv.entries = s.inv.entries := by
  unfold JoinsIfWaiting at h
  rw [h]

theorem JoinsIfWaiting.waiters (h : JoinsIfWaiting s t c) :
    t.inv.waiters =
      if (t.chan c).buffer.reservation = .waiting then s.inv.waiters ++ [c] else s.inv.waiters := by
  unfold JoinsIfWaiting at h
  rw [h]

theorem JoinsIfWaiting.congr {s' t' : State} (h : JoinsIfWaiting s t c) (inv : s'.inv = s.inv) (inv' : t'.inv = t.inv)
    (buffer : (t'.chan c).buffer = (t.chan c).buffer) : JoinsIfWaiting s' t' c := by
  rw [JoinsIfWaiting, inv, inv', buffer]
  exact h

theorem Flushed.joinsIfWaiting (h : Flushed s t c) (filling : (s.chan c).buffer.state = .filling) :
    JoinsIfWaiting s t c := by
  simp only [Flushed, filling, if_true] at h
  obtain ⟨-, decision⟩ := h
  split at decision
  · obtain ⟨none, inv⟩ := decision
    exact .of_inv inv (by rw [none]; nofun)
  · split at decision
    · obtain ⟨held, inv⟩ := decision
      exact .of_inv inv (by rw [held]; nofun)
    · obtain ⟨waiting, inv⟩ := decision
      rw [JoinsIfWaiting, if_pos waiting, inv]

theorem WriteReached.joinsIfWaiting {addr : ChanAddr} {data : WriteData} {tr : Translation}
    (h : WriteReached s t c addr data tr) (empty : (s.chan c).buffer.state = .empty) : JoinsIfWaiting s t c := by
  obtain ⟨m, ⟨filling, -, -, -, -, reservation⟩, -, flushes, stays, -⟩ := h.1 (.inl empty)
  by_cases closes : (∀ k : Fin 16, m.mask[k] = true) ∨ (s.chan c).state ≠ .active
  · exact (flushes closes).joinsIfWaiting (by rw [State.chan_modChan_self]; exact filling)
  · obtain ⟨buffer, inv⟩ := stays closes
    refine .of_inv inv ?_
    rw [buffer, reservation, empty]
    nofun

theorem ReadReached.joinsIfWaiting {size : Size} {tr : Translation} (h : ReadReached s t c size tr)
    (cleared : (s.chan c).buffer = Buffer.cleared) : JoinsIfWaiting s t c := by
  obtain ⟨-, answered, requested⟩ := h
  have other : ¬ ((s.chan c).buffer.state ≠ .empty ∧ (s.chan c).buffer.line = tr.line) := by
    rw [cleared]
    exact fun own => own.1 rfl
  have settled (f : Channel → Channel) (same : (f (s.chan c)).buffer = (s.chan c).buffer) :
      JoinsIfWaiting s (s.modChan c f) c := by
    refine .of_inv rfl ?_
    rw [State.chan_modChan_self, same, cleared]
    nofun
  by_cases line : (s.chan c).state = .active ∧ (s.chan c).desc.readAhead = true ∧
      ∃ d, (s.chan c).readAhead = some { line := tr.line, data := d }
  · obtain ⟨active, enabled, d, hd⟩ := line
    rw [answered d other active enabled hd]
    exact settled _ rfl
  · rw [requested other line]
    exact settled _ rfl

theorem State.restartWaiting_joinsIfWaiting (cleared : (s.chan c).buffer = Buffer.cleared) :
    JoinsIfWaiting s (s.restartWaiting c) c := by
  unfold State.restartWaiting
  split
  · exact (s.placeWrite_reached ..).joinsIfWaiting (by rw [cleared]; rfl)
  · exact (s.placeRead_reached ..).joinsIfWaiting cleared
  · exact .of_inv rfl (by rw [cleared]; nofun)

/-! ## The acknowledge of a line write as a whole (R89) -/

theorem State.settle_buffer (s : State) (c : Chan) : ((s.settle c).chan c).buffer = (s.chan c).buffer := by
  obtain ⟨-, -, -, self, -⟩ := s.settle_tested c
  rw [self]

theorem State.acknowledged_chan_ne {d : Chan} (hd : d ≠ c) :
    (s.acknowledged c).chan d = (s.resolveReservation c).chan d := by
  obtain ⟨-, -, -, -, others, -⟩ := ((s.vacated c).restartWaiting c).settle_tested c
  calc (s.acknowledged c).chan d
    _ = ((s.vacated c).restartWaiting c).chan d := others d hd
    _ = (s.vacated c).chan d := ((s.vacated c).restartWaiting_placed c).others d hd
    _ = (s.resolveReservation c).chan d := State.chan_modChan_ne _ (Ne.symm hd) _

theorem State.acknowledged_joinsIfWaiting (s : State) (c : Chan) :
    JoinsIfWaiting (s.resolveReservation c) (s.acknowledged c) c := by
  have cleared : ((s.vacated c).chan c).buffer = Buffer.cleared := by rw [State.vacated_chan_self]
  exact (State.restartWaiting_joinsIfWaiting cleared).congr rfl (State.settle_inv ..) (State.settle_buffer ..)

theorem State.acknowledged_buffer_of_none (none : (s.chan c).txn = none) :
    ((s.acknowledged c).chan c).buffer = Buffer.cleared := by
  have still : ((s.vacated c).chan c).txn = .none := by rw [State.vacated_chan_self]; exact none
  have buffer := State.settle_buffer ((s.vacated c).restartWaiting c) c
  rw [State.restartWaiting_of_none still, State.vacated_chan_self] at buffer
  rw [State.acknowledged, ← State.vacated, State.restartWaiting_of_none still]
  exact buffer

theorem State.acknowledged_eq (s : State) (c : Chan) :
    s.acknowledged c =
      { s with
        chans := (s.acknowledged c).chans, tc := (s.acknowledged c).tc, shadow := (s.acknowledged c).shadow
        inv := (s.acknowledged c).inv, ints := (s.acknowledged c).ints } := by
  obtain ⟨-, -, -, -, -, tested⟩ := ((s.vacated c).restartWaiting c).settle_tested c
  have vacated := State.vacated_eq (s := s) (c := c)
  have again := ((s.vacated c).restartWaiting_placed c).rest
  change s.acknowledged c = _ at tested
  generalize s.acknowledged c = t at tested ⊢
  generalize (s.vacated c).restartWaiting c = w at tested again
  rw [tested, again, vacated]

/-- R90: what the bus error of an acknowledge does before its other steps; without one, nothing. -/
def State.errorNoted (s : State) (c : Chan) : Ack → State
  | .ok => s
  | .busError => s.writeBusError c

/-- What the bus error of an acknowledge leaves for the steps that follow. -/
structure ErrorNoted (s t : State) (c : Chan) : Prop where
  buffer : (t.chan c).buffer = (s.chan c).buffer
  gone : (s.chan c).txn = none → (t.chan c).txn = none
  others : ∀ d, d ≠ c → t.chan d = s.chan d
  rest : t = { s with chans := t.chans, log := t.log, ints := t.ints }

theorem State.errorNoted_noted (writing : (s.chan c).buffer.state = .writing) (ack : Ack) :
    ErrorNoted s (s.errorNoted c ack) c := by
  cases ack with
  | ok => exact ⟨rfl, id, fun _ _ => rfl, rfl⟩
  | busError =>
    obtain ⟨-, self, others, rest⟩ := State.writeBusError_taken writing
    change ErrorNoted s (s.writeBusError c) c
    exact ⟨by rw [self], fun gone => by rw [self, gone]; rfl, others, rest⟩

end

/-- The acknowledge of channel `c`'s line write takes `s` to `t`: the state `u`, in which a bus error has been noted, and
what follows from it. -/
structure AckTaken (s u t : State) (id : Nat) (c : Chan) : Prop where
  noted : ErrorNoted (s.freeRecord id) u c
  others : ∀ d, d ≠ c → t.chan d = (u.resolveReservation c).chan d
  joins : JoinsIfWaiting (u.resolveReservation c) t c
  shadow : t.shadow = (u.resolveReservation c).shadow
  emptied : (s.chan c).txn = none → (t.chan c).buffer = Buffer.cleared
  rest : t =
    { s.freeRecord id with
      bridge := t.bridge, chans := t.chans, tc := t.tc, shadow := t.shadow, inv := t.inv, log := t.log, ints := t.ints }

section
variable {s : State} {id : Nat} {c : Chan} (released : s.resetHeld = false)
  (hrec : s.bus.recordOf id = some { id, requester := .write c }) (writing : (s.chan c).buffer.state = .writing)
include released hrec writing

theorem exec_lineWriteAcknowledge_taken (ack : Ack) :
    ∃ u t, exec (.lineWriteAcknowledge id ack) s = .next t ∧ AckTaken s u t id c := by
  have noted : ErrorNoted (s.freeRecord id) ((s.freeRecord id).errorNoted c ack) c :=
    State.errorNoted_noted (s := s.freeRecord id) writing ack
  have taken : exec (.lineWriteAcknowledge id ack) s =
      .next (((s.freeRecord id).errorNoted c ack).acknowledged c).endResetting := by
    cases ack with
    | ok => exact exec_lineWriteAcknowledge_ok released hrec writing
    | busError => exact exec_lineWriteAcknowledge_busError released hrec writing
  generalize (s.freeRecord id).errorNoted c ack = u at noted taken
  have others (d : Chan) (hd : d ≠ c) := State.acknowledged_chan_ne (s := u) hd
  have joins := u.acknowledged_joinsIfWaiting c
  have shadow : (u.acknowledged c).shadow = (u.resolveReservation c).shadow := by simp [State.acknowledged]
  have emptied := State.acknowledged_buffer_of_none (s := u) (c := c)
  have rest := u.acknowledged_eq c
  rw [State.endResetting_eq] at taken
  generalize (u.acknowledged c).endResetting.bridge = b at taken
  generalize u.acknowledged c = t at taken others joins shadow emptied rest
  refine ⟨u, { t with bridge := b }, taken, noted, others, joins, shadow, fun none => emptied (noted.gone none), ?_⟩
  have log : t.log = u.log := by rw [rest]
  have frame := noted.rest
  rw [log, rest, frame]

end

section
variable {s u t : State} {id : Nat} {c : Chan}

theorem ErrorNoted.inv (h : ErrorNoted s u c) : u.inv = s.inv := by rw [h.rest]

theorem ErrorNoted.shadow (h : ErrorNoted s u c) : u.shadow = s.shadow := by rw [h.rest]

theorem ErrorNoted.placesInUse (h : ErrorNoted s u c) : u.placesInUse = s.placesInUse :=
  State.placesInUse_congr h.inv fun d => by
    by_cases hd : d = c
    · rw [hd, h.buffer]
    · rw [h.others d hd]

theorem ErrorNoted.lookupQueues_iff (h : ErrorNoted s u c) (line : Word) : LookupQueues u line ↔ LookupQueues s line := by
  simp only [LookupQueues, h.inv, h.shadow]

theorem StoreAfterLookup.congr {s' t' : State} {line : Word} (h : StoreAfterLookup s t line) (before : s'.shadow = s.shadow)
    (after : t'.shadow = t.shadow) : StoreAfterLookup s' t' line := by
  unfold StoreAfterLookup at h ⊢
  rw [before, after]
  exact h

theorem AckTaken.entries (h : AckTaken s u t id c) (held : (s.chan c).buffer.reservation = .held) :
    EntriesResolved s c t.inv.entries := by
  have buffer : (u.chan c).buffer = (s.chan c).buffer := h.noted.buffer
  have inv : u.inv = s.inv := h.noted.inv
  have queues (line : Word) : LookupQueues u line ↔ LookupQueues s line := h.noted.lookupQueues_iff line
  have resolved := State.resolveReservation_entries (s := u) (c := c) (by rw [buffer]; exact held)
  rw [← h.joins.entries] at resolved
  simp only [EntriesResolved, buffer, inv, queues] at resolved
  exact resolved

/-- R109 to R114: what the acknowledge leaves of the shadow tag store. -/
theorem AckTaken.storeAfterLookup (h : AckTaken s u t id c) (held : (s.chan c).buffer.reservation = .held) :
    StoreAfterLookup s t (s.chan c).buffer.line := by
  have buffer : (u.chan c).buffer = (s.chan c).buffer := h.noted.buffer
  have looked : StoreAfterLookup u (u.resolveReservation c) (u.chan c).buffer.line :=
    .of_afterLookup (State.resolveReservation_shadow (by rw [buffer]; exact held))
  rw [buffer] at looked
  exact looked.congr h.noted.shadow.symm h.shadow

end

/-- Settles O28: the entries are those that the resolution leaves, and the lookup alone reaches the store. -/
theorem ackResolvesReservation : Obligations.AckResolvesReservation := by
  intro id c ack s released hrec writing held line
  obtain ⟨u, t, hexec, taken⟩ := exec_lineWriteAcknowledge_taken released hrec writing ack
  obtain ⟨merges, appends, releases⟩ := taken.entries held
  obtain ⟨cleared, store⟩ := taken.storeAfterLookup held
  refine ⟨t, hexec, merges, appends, releases, cleared, store, fun d hd => ?_, taken.rest⟩
  have reserved := u.resolveReservation_onlyReservations c d
  rw [← taken.others d hd, taken.noted.others d hd] at reserved
  exact reserved

end Sys2Proof.Machine
end

section
/-!
SUPPORT. Who takes a place that frees (R125 to R127, R131, R133): at the acknowledge of a line write or of a KILL, and at
CH_ABORT; O30.
-/

namespace Sys2Proof.Machine

/-- R125: a place that channel `c` gave up has gone to channel `d`, whose buffer's reservation is now held; every other
channel but `c` is as it was. -/
def PlaceHanded (s t : State) (c d : Chan) : Prop :=
  t.chan d = { s.chan d with buffer := { (s.chan d).buffer with reservation := .held } } ∧
    ∀ e, e ≠ c → e ≠ d → t.chan e = s.chan e

/-- R88, R125: a PENDING buffer that has been given a place requests its line write. -/
theorem State.writeStands_of_held {t : State} {d : Chan} {b : Buffer}
    (buffer : (t.chan d).buffer = { b with reservation := .held }) (pending : b.state = .pending) :
    t.writeStands d = true := by
  rw [State.writeStands, buffer]
  simp [Buffer.requestsWrite, pending]

section
variable {s t u : State} {c d : Chan} {rest : List Chan}

theorem PlaceHanded.writeStands (h : PlaceHanded s t c d) (pending : (s.chan d).buffer.state = .pending) :
    t.writeStands d = true := by
  obtain ⟨granted, -⟩ := h
  exact State.writeStands_of_held (by rw [granted]) pending

theorem PlaceHanded.congr {s' t' : State} (h : PlaceHanded s t c d) (hd : d ≠ c)
    (before : ∀ e, e ≠ c → s.chan e = s'.chan e) (after : ∀ e, e ≠ c → t'.chan e = t.chan e) :
    PlaceHanded s' t' c d := by
  obtain ⟨granted, kept⟩ := h
  refine ⟨?_, fun e hc he => ?_⟩
  · rw [after d hd, ← before d hd, granted]
  · rw [after e hc, ← before e hc, kept e hc he]

theorem PlaceFreed.handed (h : PlaceFreed s t) (waiters : s.inv.waiters = d :: rest) :
    t.inv = { s.inv with waiters := rest } ∧ PlaceHanded s t c d := by
  simp only [PlaceFreed, waiters] at h
  obtain ⟨granted, kept, frame⟩ := h
  exact ⟨by rw [frame], granted, fun e _ he => kept e he⟩

/-! ## The acknowledge of a line write (R125 to R127) -/

/-- R125 to R127: the place of a reservation that is released or merged goes to the head waiter; that of one that becomes an
entry stays in use. -/
theorem State.resolveReservation_handed (places : PlacesLaw s) (held : (s.chan c).buffer.reservation = .held)
    (waiters : s.inv.waiters = d :: rest) (hd : d ≠ c) :
    let line := (s.chan c).buffer.line
    let merges := ∃ e ∈ s.inv.entries, e.line = line ∧ e.issued = false
    let t := s.resolveReservation c
    (¬ LookupQueues s line ∨ merges → t.inv.waiters = rest ∧ PlaceHanded s t c d) ∧
      (LookupQueues s line → ¬ merges → t.inv.waiters = s.inv.waiters ∧ ∀ e, e ≠ c → t.chan e = s.chan e) := by
  intro line merges t
  have resolved := State.resolveReservation_resolved places c
  unfold ReservationResolved at resolved
  rw [if_pos held] at resolved
  obtain ⟨-, releases, joins, appends⟩ := resolved
  have freed {v : State} (h : PlaceFreed v t) (same : v.inv.waiters = s.inv.waiters)
      (kept : ∀ e, e ≠ c → v.chan e = s.chan e) : t.inv.waiters = rest ∧ PlaceHanded s t c d := by
    obtain ⟨inv, handed⟩ := h.handed (c := c) (same.trans waiters)
    exact ⟨by rw [inv], handed.congr hd kept fun _ _ => rfl⟩
  by_cases queues : LookupQueues s line
  · by_cases merge : merges
    · exact ⟨fun _ => freed (joins queues merge) rfl fun e he => State.chan_modChan_ne _ (Ne.symm he) _,
        fun _ alone => absurd merge alone⟩
    · refine ⟨fun h => h.elim (absurd queues) (absurd · merge), fun _ _ => ?_⟩
      have appended : t = _ := appends queues merge
      rw [appended]
      exact ⟨rfl, fun e he => State.chan_modChan_ne _ (Ne.symm he) _⟩
  · exact ⟨fun _ => freed (releases queues) rfl fun e he => State.chan_modChan_ne _ (Ne.symm he) _,
      fun h => absurd h queues⟩

theorem AckTaken.handed {id : Nat} (h : AckTaken s u t id c) (places : PlacesLaw s)
    (held : (s.chan c).buffer.reservation = .held) (waiters : s.inv.waiters = d :: rest) (hd : d ≠ c) :
    let line := (s.chan c).buffer.line
    let merges := ∃ e ∈ s.inv.entries, e.line = line ∧ e.issued = false
    (¬ LookupQueues s line ∨ merges →
        PlaceHanded s t c d ∧
          t.inv.waiters = if (t.chan c).buffer.reservation = .waiting then rest ++ [c] else rest) ∧
      (LookupQueues s line → ¬ merges →
        (∀ e, e ≠ c → t.chan e = s.chan e) ∧
          t.inv.waiters =
            if (t.chan c).buffer.reservation = .waiting then s.inv.waiters ++ [c] else s.inv.waiters) := by
  have buffer : (u.chan c).buffer = (s.chan c).buffer := h.noted.buffer
  have inv : u.inv = s.inv := h.noted.inv
  have queues (line : Word) : LookupQueues u line ↔ LookupQueues s line := h.noted.lookupQueues_iff line
  have law : PlacesLaw u := h.noted.placesInUse.le.trans places
  have resolved := State.resolveReservation_handed (c := c) law (by rw [buffer]; exact held) (by rw [inv]; exact waiters) hd
  simp only [buffer, inv, queues] at resolved
  obtain ⟨hands, keeps⟩ := resolved
  refine ⟨fun frees => ?_, fun queued alone => ?_⟩
  · obtain ⟨left, handed⟩ := hands frees
    have joined := h.joins.waiters
    rw [left] at joined
    exact ⟨handed.congr hd h.noted.others h.others, joined⟩
  · obtain ⟨left, kept⟩ := keeps queued alone
    have joined := h.joins.waiters
    rw [left] at joined
    exact ⟨fun e he => (h.others e he).trans ((kept e he).trans (h.noted.others e he)), joined⟩

/-! ## The acknowledge of a KILL, and CH_ABORT (R131, R133) -/

/-- R131, R125: the place of the removed head goes to the head waiter. -/
theorem State.killRemoved_freed {e : InvEntry} {entries : List InvEntry} (places : PlacesLaw s)
    (head : s.inv.entries = e :: entries) (id : Nat) :
    PlaceFreed { s.freeRecord id with inv := { s.inv with entries := entries } } (s.killRemoved id entries) :=
  State.grantPlace_freed fun _ => by
    have before : s.placesInUse = (e :: entries).length + s.reservations := by rw [← head]; rfl
    have fewer : ({ s.freeRecord id with inv := { s.inv with entries := entries } } : State).placesInUse =
        entries.length + s.reservations := rfl
    rw [PlacesLaw, before, List.length_cons] at places
    omega

theorem State.killTested_buffer (l : List Chan) (ack : Ack) (c : Chan) :
    ((s.killTested l ack).chan c).buffer = (s.chan c).buffer := by
  rw [State.killTested_chan]
  split
  · exact s.settle_buffer c
  · rfl

theorem State.killTested_inv (l : List Chan) (ack : Ack) : (s.killTested l ack).inv = s.inv := by
  rw [State.killTested_eq]

/-- R91, R125, R133: the place of a PENDING buffer that is discarded goes to the head waiter, and the test of the
conditions changes no other channel. -/
theorem State.startAbort_handed (places : PlacesLaw s) (pending : (s.chan c).buffer.state = .pending)
    (held : (s.chan c).buffer.reservation = .held) (waiters : s.inv.waiters = d :: rest) (absent : c ∉ s.inv.waiters) :
    ((s.startAbort c).settle c).inv = { s.inv with waiters := rest } ∧ PlaceHanded s ((s.startAbort c).settle c) c d := by
  obtain ⟨-, -, -, -, same, -⟩ := (s.startAbort c).settle_tested c
  obtain ⟨-, hands, -⟩ := State.startAbort_discarded (.inr pending)
  have others : s.inv.waiters.filter (fun e => e ≠ c) = d :: rest := by
    rw [← waiters, List.filter_eq_self]
    exact fun e he => decide_eq_true fun same => absent (same ▸ he)
  obtain ⟨left, granted, kept⟩ := hands d rest held places others
  have hd : d ≠ c := fun same => absent (by rw [waiters, same]; exact List.mem_cons_self)
  have handed : PlaceHanded s (s.startAbort c) c d := ⟨granted, kept⟩
  refine ⟨?_, handed.congr hd (fun _ _ => rfl) same⟩
  rw [State.settle_inv]
  exact congrArg₂ InvQueue.mk (s.startAbort_entries c) left

end

/-- Settles O30: each of the happenings frees one place of at most 8, and the head waiter, if it is asked, takes it. -/
theorem releasedPlaceGoesToHeadWaiter : Obligations.ReleasedPlaceGoesToHeadWaiter := by
  refine ⟨fun id c d rest s released places hrec writing held gone releases waiters hd => ?_,
    fun id e d entries rest ack s released places hrec head issued waiters => ?_,
    fun id c d rest ack s released places hrec writing held waiters hd => ?_,
    fun c d rest operand page s ready hc places running pending held waiters absent => ?_⟩
  · obtain ⟨u, t, hexec, taken⟩ := exec_lineWriteAcknowledge_taken released hrec writing .ok
    obtain ⟨hands, -⟩ := taken.handed places held waiters hd
    obtain ⟨handed, left⟩ := hands (.inl releases)
    obtain ⟨-, -, entries⟩ := taken.entries held
    have emptied := taken.emptied gone
    have unqueued : (t.chan c).buffer.reservation ≠ .waiting := by rw [emptied]; nofun
    rw [if_neg unqueued] at left
    exact ⟨t, hexec, congrArg₂ InvQueue.mk (entries releases) left, handed.1, handed.writeStands, emptied, handed.2⟩
  · obtain ⟨inv, granted, kept⟩ := (State.killRemoved_freed places head id).handed (c := d) waiters
    have buffer (c : Chan) := (s.killRemoved id entries).killTested_buffer e.chans ack c
    have given : (((s.killRemoved id entries).killTested e.chans ack).chan d).buffer =
        { (s.chan d).buffer with reservation := .held } := by
      rw [buffer, granted]
      rfl
    refine ⟨_, exec_killAcknowledge_of_record released hrec head issued ack, ?_, given,
      State.writeStands_of_held given, fun c hc => ?_⟩
    · rw [State.killTested_inv, inv]
    · rw [buffer, kept c hc hc]
      rfl
  · obtain ⟨u, t, hexec, taken⟩ := exec_lineWriteAcknowledge_taken released hrec writing ack
    obtain ⟨hands, keeps⟩ := taken.handed places held waiters hd
    refine ⟨t, hexec, fun frees => ?_, keeps⟩
    obtain ⟨handed, left⟩ := hands frees
    exact ⟨handed.1, handed.writeStands, handed.2, left⟩
  · have taken : exec (.chAbort operand page) s =
        .next (((s.startAbort c).settle c).completeCommand .chAbort operand page .ok) := by
      rw [exec_chAbort, State.channelCommand_of_ready ready hc rfl, State.dispatchCommand, chanOfOperand_eq hc,
        State.abortChannel_of_running running]
    obtain ⟨inv, handed⟩ := State.startAbort_handed places pending held waiters absent
    have emptied : (((s.startAbort c).settle c).chan c).buffer = Buffer.cleared := by
      rw [State.settle_buffer, State.startAbort_chan_self]
      exact if_pos (.inr pending)
    generalize (s.startAbort c).settle c = t at taken inv handed emptied
    exact ⟨_, taken, inv, handed.1, handed.writeStands, emptied, handed.2⟩

end Sys2Proof.Machine
end

section
/-!
SUPPORT. The shadow tag store entry by entry (R103 to R105, R117): what a fill, a lookup and a sweep step leave of each
entry, and the laws of the sweep (R102, R105); O54.
-/

namespace Sys2Proof.Machine

/-! ## Entries after each operation -/

section
variable {sh : Shadow} {line : Word} {set : Fin 256} {w : Way} {e : ShadowEntry}

theorem Shadow.marksFresh_iff : sh.marksFresh set = true ↔ sh.state = .clearing ∧ sh.pointer ≤ set.val := by
  simp [Shadow.marksFresh]

/-- R104: a recorded fill replaces the entry of its set and way, and no other. -/
theorem Shadow.record_getElem (sh : Shadow) (line : Word) (way : Way) (set : Fin 256) (w : Way) :
    (sh.record line way).sets[set][w] =
      if set = setOf line ∧ w = way then some { tag := tagOf line, fresh := sh.marksFresh set }
      else sh.sets[set][w] := by
  have written : (sh.record line way).sets[set] =
      if setOf line = set then
        sh.sets[setOf line].set way (some { tag := tagOf line, fresh := sh.marksFresh (setOf line) })
      else sh.sets[set] :=
    vector_getElem_set_fin _ _ _ _ (setOf line).isLt
  by_cases same : setOf line = set
  · subst same
    rw [if_pos rfl] at written
    simp only [written, vector_getElem_set_fin, true_and, eq_comm (a := w)]
  · rw [if_neg same] at written
    rw [written, if_neg fun h => same h.1.symm]

/-- R110: a lookup clears entries and changes none otherwise. -/
theorem Shadow.afterLookup_eq_some (h : (sh.afterLookup line).sets[set][w] = some e) : sh.sets[set][w] = some e := by
  unfold Shadow.afterLookup at h
  split at h
  · rw [Shadow.clearMatches_getElem] at h
    split at h
    · cases h
    · exact h
  · exact h
  · exact h

@[simp] theorem Shadow.afterLookup_state (sh : Shadow) (line : Word) : (sh.afterLookup line).state = sh.state := by
  unfold Shadow.afterLookup
  split <;> rfl

@[simp] theorem Shadow.afterLookup_pointer (sh : Shadow) (line : Word) : (sh.afterLookup line).pointer = sh.pointer := by
  unfold Shadow.afterLookup
  split <;> rfl

theorem sweepEntry_unmarked {x : Option ShadowEntry} (h : sweepEntry x = some e) : e.fresh = false := by
  unfold sweepEntry at h
  split at h
  · split at h
    · cases h
      rfl
    · cases h
  · cases h

theorem Shadow.sweepStep_of_ge (done : 256 ≤ sh.pointer) : sh.sweepStep = sh :=
  dif_neg (by omega)

section
variable (below : sh.pointer < 256)
include below

/-- R117: a sweep step reaches the entries of the set at the pointer. -/
theorem Shadow.sweepStep_getElem (set : Fin 256) (w : Way) :
    sh.sweepStep.sets[set][w] =
      if set.val = sh.pointer then sweepEntry sh.sets[set][w] else sh.sets[set][w] := by
  simp only [Shadow.sweepStep, dif_pos below, Fin.getElem_fin, Vector.getElem_set, eq_comm (a := sh.pointer)]
  split
  · next same => simp [same]
  · rfl

theorem Shadow.sweepStep_state : sh.sweepStep.state = if sh.pointer = 255 then .idle else sh.state := by
  simp only [Shadow.sweepStep, dif_pos below]

theorem Shadow.sweepStep_pointer : sh.sweepStep.pointer = sh.pointer + 1 := by
  simp only [Shadow.sweepStep, dif_pos below]

theorem Shadow.sweepStep_eq :
    sh.sweepStep =
      { sh with sets := sh.sweepStep.sets, state := sh.sweepStep.state, pointer := sh.sweepStep.pointer } := by
  simp only [Shadow.sweepStep, dif_pos below]

end

end

/-! ## The laws of the sweep (R102, R105) -/

/-- R105, R102: the two laws of the sweep as laws of the store alone. -/
structure Shadow.SweepFits (sh : Shadow) : Prop where
  marked : ∀ (set : Fin 256) (w : Way) (e : ShadowEntry), sh.sets[set][w] = some e → e.fresh = true →
    sh.state = .clearing ∧ sh.pointer ≤ set.val
  idle : sh.state = .idle → sh.pointer = 256
  clearing : sh.state = .clearing → sh.pointer < 256

theorem sweepPointerLaw_iff (s : State) :
    SweepPointerLaw s ↔
      (s.shadow.state = .idle → s.shadow.pointer = 256) ∧ (s.shadow.state = .clearing → s.shadow.pointer < 256) := by
  unfold SweepPointerLaw
  cases s.shadow.state <;> simp

theorem sweepLaws_iff (s : State) : (FreshMarkLaw s ∧ SweepPointerLaw s) ↔ s.shadow.SweepFits := by
  rw [sweepPointerLaw_iff]
  exact ⟨fun ⟨marked, idle, clearing⟩ => ⟨marked, idle, clearing⟩, fun h => ⟨h.marked, h.idle, h.clearing⟩⟩

/-- R117, R118: past the pointer's set the marks stand as before, and in it the step leaves none. -/
theorem Shadow.SweepFits.sweepStep {sh : Shadow} (h : sh.SweepFits) : sh.sweepStep.SweepFits := by
  by_cases below : sh.pointer < 256
  case neg => rwa [Shadow.sweepStep_of_ge (by omega)]
  refine ⟨fun set w e he marked => ?_, fun _ => ?_, fun goesOn => ?_⟩
  · rw [Shadow.sweepStep_getElem below] at he
    split at he
    · rw [sweepEntry_unmarked he] at marked
      cases marked
    · next other =>
      obtain ⟨clearing, above⟩ := h.marked set w e he marked
      rw [Shadow.sweepStep_state below, Shadow.sweepStep_pointer below, if_neg (by omega)]
      exact ⟨clearing, by omega⟩
  · next ended =>
    rw [Shadow.sweepStep_state below] at ended
    rw [Shadow.sweepStep_pointer below]
    split at ended
    · omega
    · have := h.idle ended
      omega
  · rw [Shadow.sweepStep_state below] at goesOn
    rw [Shadow.sweepStep_pointer below]
    split at goesOn
    · cases goesOn
    · omega

/-- R102, R105: everything that can happen to the store keeps the laws of the sweep. -/
theorem ShadowStep.keeps_sweepFits {a b : Shadow} (step : ShadowStep a b) (h : a.SweepFits) : b.SweepFits := by
  cases step with
  | same => exact h
  | record line way =>
    refine ⟨fun set w e he marked => ?_, h.idle, h.clearing⟩
    rw [Shadow.record_getElem] at he
    split at he
    · cases he
      exact Shadow.marksFresh_iff.mp marked
    · exact h.marked set w e he marked
  | lookup line =>
    refine ⟨fun set w e he marked => ?_, ?_, ?_⟩
    · simpa using h.marked set w e (Shadow.afterLookup_eq_some he) marked
    · simpa using h.idle
    · simpa using h.clearing
  | sweep => exact h.sweepStep
  | start idle =>
    refine ⟨fun set w e he marked => ?_, nofun, fun _ => by simp [Shadow.startSweep]⟩
    obtain ⟨clearing, -⟩ := h.marked set w e he marked
    rw [idle] at clearing
    cases clearing
  | control => exact ⟨h.marked, h.idle, h.clearing⟩
  | powerOn epoch =>
    refine ⟨fun set w e he marked => ?_, nofun, fun _ => by simp [Shadow.powerOn]⟩
    rw [powerOnSets_fresh he] at marked
    cases marked

/-- A law of the store that everything that can happen to it keeps is kept by every step. -/
theorem keptByStep_of_shadowStep {P : Shadow → Prop} (keep : ∀ {a b}, ShadowStep a b → P a → P b) :
    KeptByStep fun s => P s.shadow := fun _ _ hs h =>
  step_keeps (P := fun s => P s.shadow) (fun _ _ h => h) (fun s h => by simpa using h)
    (fun i s t h he => keep (exec_shadowStep i s t he) h) hs h

/-- Settles O54: the two laws together are a law of the store that each of the steps of the store keeps. -/
theorem sweepLawsKept : Obligations.SweepLawsKept := by
  unfold Obligations.SweepLawsKept
  simp only [sweepLaws_iff]
  exact keptByStep_of_shadowStep ShadowStep.keeps_sweepFits

end Sys2Proof.Machine
end

section
/-!
SUPPORT. Fills, sweep steps and whole sweeps of the shadow tag store (R103 to R105, R116 to R118); O38, O39, O40.
-/

namespace Sys2Proof.Machine

/-! ## Fills (R103 to R105) -/

theorem ShadowMode.tracksFills_iff (m : ShadowMode) : m.tracksFills = true ↔ m ≠ .off := by
  cases m <;> decide

/-- Settles O38: the mode and the way mask decide what becomes of a fill. -/
theorem fill : Obligations.Fill := by
  intro line w s released
  rw [exec_fill, State.unlessReset_of_not_held released]
  refine ⟨fun off => ?_, fun on disabled => ?_, fun on enabled => ?_⟩
  · rw [State.takeFill, if_neg (by simp [ShadowMode.tracksFills_iff, off])]
  · rw [State.takeFill, if_pos (s.shadow.mode.tracksFills_iff.mpr on), if_neg (by rw [Shadow.enabled, disabled]; nofun),
      State.raiseFillWay]
  · rw [State.takeFill, if_pos (s.shadow.mode.tracksFills_iff.mpr on), if_pos (by exact enabled)]
    refine ⟨_, rfl, rfl, fun set way => ?_⟩
    have mark : s.shadow.marksFresh set = decide (s.shadow.state = .clearing ∧ s.shadow.pointer ≤ set.val) := by
      rw [Bool.eq_iff_iff, Shadow.marksFresh_iff, decide_eq_true_iff]
    rw [Shadow.record_getElem, mark]

/-! ## Sweep steps (R117, R118) -/

theorem exec_sweepStep_of_clearing {s : State} (released : s.resetHeld = false) (clearing : s.shadow.state = .clearing) :
    exec .sweepStep s =
      .next { s with
        shadow := s.shadow.sweepStep
        ints := if s.shadow.pointer = 255 then { s.ints with sweepDone := true } else s.ints } := by
  rw [exec_sweepStep, State.unlessReset_of_not_held released]
  simp only [State.takeSweepStep, clearing]
  split <;> rfl

/-- Settles O39: the step in CLEARING is the store's own, with SWEEP_DONE at its end; in IDLE none is taken. -/
theorem sweepStep : Obligations.SweepStep := by
  intro s released
  refine ⟨fun idle => ?_, fun clearing range => ?_⟩
  · rw [exec_sweepStep, State.unlessReset_of_not_held released]
    simp only [State.takeSweepStep, idle]
  · have below := ((sweepPointerLaw_iff s).mp range).2 clearing
    refine ⟨_, exec_sweepStep_of_clearing released clearing, fun set w => ?_, Shadow.sweepStep_pointer below, ?_, rfl, ?_⟩
    · exact (Shadow.sweepStep_getElem below set w).trans rfl
    · rw [← clearing]
      exact Shadow.sweepStep_state below
    · exact congrArg (fun sh => ({ s with shadow := sh, ints := _ } : State)) (Shadow.sweepStep_eq below)

/-! ## A whole sweep (R116 to R118) -/

/-- R117, R118: `t` is what the rest of the sweep, from the pointer of `s` on, ends in. -/
structure SweepEnded (s t : State) : Prop where
  state : t.shadow.state = .idle
  pointer : t.shadow.pointer = 256
  raised : t.ints.sweepDone = true
  entries : ∀ (set : Fin 256) (w : Way),
    t.shadow.sets[set][w] =
      if s.shadow.pointer ≤ set.val then sweepEntry s.shadow.sets[set][w] else s.shadow.sets[set][w]

/-- R117, R118: the steps from the pointer to set 255, by induction on their number. -/
theorem execTimes_sweepStep {s : State} (n : Nat) (released : s.resetHeld = false) (clearing : s.shadow.state = .clearing)
    (below : s.shadow.pointer < 256) (left : s.shadow.pointer + n = 256) :
    ∃ t, execTimes .sweepStep n s = .next t ∧ SweepEnded s t := by
  induction n generalizing s with
  | zero => omega
  | succ n ih =>
    have swept := Shadow.sweepStep_getElem below
    have pointer := Shadow.sweepStep_pointer below
    have state := Shadow.sweepStep_state below
    rw [execTimes, exec_sweepStep_of_clearing released clearing]
    by_cases last : s.shadow.pointer = 255
    · obtain rfl : n = 0 := by omega
      refine ⟨_, rfl, ?_, ?_, ?_, fun set w => ?_⟩
      · exact state.trans (if_pos last)
      · exact pointer.trans (by omega)
      · simp only [if_pos last]
      · exact (swept set w).trans (if_congr (by omega) rfl rfl)
    · obtain ⟨t, taken, ended⟩ := ih (s := { s with shadow := s.shadow.sweepStep, ints := _ }) released
        (state.trans ((if_neg last).trans clearing)) (by rw [pointer]; omega) (by rw [pointer]; omega)
      refine ⟨t, taken, ended.state, ended.pointer, ended.raised, fun set w => ?_⟩
      have entry := ended.entries set w
      simp only [pointer, swept] at entry
      rw [entry]
      by_cases here : set.val = s.shadow.pointer
      · rw [if_neg (by omega), if_pos here, if_pos (by omega)]
      · rw [if_neg here]
        exact if_congr (by omega) rfl rfl

/-- R105: in IDLE no entry is marked, so a sweep leaves none. -/
theorem FreshMarkLaw.sweepEntry_eq_none {s : State} (h : FreshMarkLaw s) (idle : s.shadow.state = .idle) (set : Fin 256)
    (w : Way) : sweepEntry s.shadow.sets[set][w] = none := by
  cases entry : s.shadow.sets[set][w] with
  | none => rfl
  | some e =>
    have unmarked : ¬ e.fresh = true := fun marked => by
      have := (h set w e entry marked).1
      rw [idle] at this
      cases this
    simp [sweepEntry, unmarked]

/-- Settles O40: TAGS_CLEAR sets the pointer to 0, and the 256 steps sweep the sets from there on. -/
theorem wholeSweep : Obligations.WholeSweep := by
  intro channel page s s' ready idle started
  obtain ⟨-, tagsClear⟩ := xlatClaimAndTagsClear
  rw [(tagsClear channel page s ready).1 idle] at started
  cases started
  obtain ⟨t, taken, ended⟩ := execTimes_sweepStep 256 (s :=
    ({ s with shadow := s.shadow.startSweep } : State).completeCommand .tagsClear channel page .ok)
    ready.1 rfl (show 0 < 256 by decide) rfl
  have entries (set : Fin 256) (w : Way) : t.shadow.sets[set][w] = sweepEntry s.shadow.sets[set][w] :=
    (ended.entries set w).trans (if_pos (Nat.zero_le _))
  refine ⟨t, taken, ended.state, ended.pointer, ended.raised, fun set w => (entries set w).trans rfl,
    fun marks set w => (entries set w).trans (marks.sweepEntry_eq_none idle set w)⟩

end Sys2Proof.Machine
end

section
/-!
SUPPORT. The invalidate an acknowledged coherent line write owes (R112, R127); O29.
-/

namespace Sys2Proof.Machine

/-- R127: the entry that the writer joins names the writer. -/
theorem exists_mem_joined {entries : List InvEntry} {line : Word} (c : Chan)
    (merges : ∃ e ∈ entries, e.line = line ∧ e.issued = false) :
    ∃ e ∈ joined entries line c, e.line = line ∧ c ∈ e.chans ∧ e.issued = false := by
  obtain ⟨e, mem, names⟩ := merges
  refine ⟨_, List.mem_map_of_mem mem, ?_⟩
  rw [if_pos names]
  refine ⟨names.1, ?_, names.2⟩
  show c ∈ if c ∈ e.chans then e.chans else e.chans ++ [c]
  split
  · assumption
  · simp

/-- Settles O29: the writer joins the unissued entry of its line, or a new entry is its own. -/
theorem coherentWriteOwesKill : Obligations.CoherentWriteOwesKill := by
  intro id c ack s released hrec writing held queues
  obtain ⟨u, t, hexec, taken⟩ := exec_lineWriteAcknowledge_taken released hrec writing ack
  obtain ⟨merges, appends, -⟩ := taken.entries held
  refine ⟨t, hexec, ?_⟩
  by_cases merge : ∃ e ∈ s.inv.entries, e.line = (s.chan c).buffer.line ∧ e.issued = false
  · rw [merges queues merge]
    exact exists_mem_joined c merge
  · rw [appends queues merge]
    exact ⟨_, List.mem_append_right _ (List.mem_singleton_self _), rfl, List.mem_singleton_self c, rfl⟩

end Sys2Proof.Machine
end

section
/-!
SUPPORT. The place of a host line in the shadow tag store: its set and tag as numbers, the entries its fills take, and the
set its acknowledge reaches (R101, R104, R110); O37.
-/

namespace Sys2Proof.Machine

/-! ## Set and tag as numbers (R101) -/

theorem setOf_val (line : Word) : (setOf line).val = line.toNat / 16 % 256 := by
  simp [setOf, Nat.shiftRight_eq_div_pow]

theorem tagOf_toNat (line : Word) : (tagOf line).toNat = line.toNat / 4096 := by
  have := line.isLt
  simp only [tagOf, BitVec.extractLsb'_toNat, Nat.shiftRight_eq_div_pow]
  omega

theorem setOf_eq_iff (l m : Word) : setOf l = setOf m ↔ l.toNat / 16 % 256 = m.toNat / 16 % 256 := by
  rw [Fin.ext_iff, setOf_val, setOf_val]

theorem tagOf_eq_iff (l m : Word) : tagOf l = tagOf m ↔ l.toNat / 4096 = m.toNat / 4096 := by
  rw [← BitVec.toNat_inj, tagOf_toNat, tagOf_toNat]

/-- R101: lines that differ by a multiple of 4096 bytes share a set and differ in tag. -/
theorem setOf_tagOf_add (line : Word) {k : Nat} (positive : 0 < k) (small : k < 2 ^ 20) :
    setOf (line + BitVec.ofNat 32 (4096 * k)) = setOf line ∧ tagOf (line + BitVec.ofNat 32 (4096 * k)) ≠ tagOf line := by
  have bound := line.isLt
  have sum : (line + BitVec.ofNat 32 (4096 * k)).toNat = (line.toNat + 4096 * k) % 2 ^ 32 := by simp
  rw [ne_eq, setOf_eq_iff, tagOf_eq_iff, sum]
  omega

/-- R101: set and tag tell lines apart. -/
theorem line_eq_iff_setOf_tagOf {l m : Word} (hl : l.toNat % 16 = 0) (hm : m.toNat % 16 = 0) :
    l = m ↔ setOf l = setOf m ∧ tagOf l = tagOf m := by
  rw [← BitVec.toNat_inj, setOf_eq_iff, tagOf_eq_iff]
  omega

/-! ## A line recorded is a line held (R104, R110) -/

section
variable {sh : Shadow} {line : Word} {w : Way}

/-- R110: an enabled entry with the line's tag, marked or not, holds the line. -/
theorem Shadow.holds_of_entry {fresh : Bool} (enabled : sh.wayMask.getLsbD w.val = true)
    (entry : sh.sets[setOf line][w] = some { tag := tagOf line, fresh := fresh }) : sh.holds line = true := by
  refine List.any_eq_true.mpr ⟨w, List.mem_finRange w, (sh.matchesAt_iff line w).mpr ⟨enabled, ?_⟩⟩
  simp only [entry, Option.any_some, beq_self_eq_true]

theorem Shadow.holds_record (enabled : sh.wayMask.getLsbD w.val = true) : (sh.record line w).holds line = true :=
  Shadow.holds_of_entry (w := w) (fresh := sh.marksFresh (setOf line)) enabled
    (by rw [Shadow.record_getElem, if_pos ⟨rfl, rfl⟩])

end

section
variable (lines : Vector Word 8)

/-- Line `v` of `lines` recorded in way `v`, for each way `v` of a list in turn. -/
def Shadow.recordAll (sh : Shadow) (ways : List Way) : Shadow := ways.foldl (fun sh v => sh.record lines[v] v) sh

theorem Shadow.recordAll_wayMask (sh : Shadow) (ways : List Way) : (sh.recordAll lines ways).wayMask = sh.wayMask := by
  induction ways generalizing sh with
  | nil => rfl
  | cons v ways ih => exact ih (sh.record lines[v] v)

/-- R104: fills of one set in different ways leave each other's entries. -/
theorem Shadow.recordAll_getElem {set : Fin 256} (same : ∀ v : Way, setOf lines[v] = set) (sh : Shadow) (ways : List Way)
    (w : Way) :
    (sh.recordAll lines ways).sets[set][w] =
      if w ∈ ways then some { tag := tagOf lines[w], fresh := sh.marksFresh set } else sh.sets[set][w] := by
  induction ways generalizing sh with
  | nil => simp [Shadow.recordAll]
  | cons v ways ih =>
    have first := sh.record_getElem lines[v] v set w
    have rest := ih (sh.record lines[v] v)
    rw [first] at rest
    refine rest.trans ?_
    by_cases later : w ∈ ways
    · rw [if_pos later, if_pos (List.mem_cons_of_mem v later)]
      rfl
    · by_cases now : w = v
      · subst now
        rw [if_neg later, if_pos ⟨(same w).symm, rfl⟩, if_pos (List.mem_cons_self ..)]
      · rw [if_neg later, if_neg fun h => now h.2, if_neg (by simp [now, later])]

end

/-- R100, R101: the 8 ways of a set hold 8 lines of it at once. -/
theorem Shadow.holds_recordAll {sh : Shadow} {lines : Vector Word 8} {set : Fin 256} (enabled : sh.wayMask = 0xFF)
    (same : ∀ v : Way, setOf lines[v] = set) (w : Way) :
    (sh.recordAll lines (List.finRange 8)).holds lines[w] = true := by
  have all : ∀ v : Way, (0xFF : BitVec 8).getLsbD v.val = true := by decide
  obtain rfl := same w
  refine Shadow.holds_of_entry (w := w) (fresh := sh.marksFresh (setOf lines[w])) ?_ ?_
  · rw [Shadow.recordAll_wayMask, enabled]
    exact all w
  · rw [Shadow.recordAll_getElem lines same, if_pos (List.mem_finRange w)]

/-! ## The set that an acknowledge reaches (R101, R110) -/

section
variable {s u t : State} {id : Nat} {c : Chan}

/-- R109: a buffer with no reservation makes no lookup. -/
theorem AckTaken.shadow_of_unheld (h : AckTaken s u t id c) (unheld : (s.chan c).buffer.reservation ≠ .held) :
    t.shadow = s.shadow := by
  have buffer : (u.chan c).buffer = (s.chan c).buffer := h.noted.buffer
  have unresolved : u.resolveReservation c = u := if_neg (by rw [buffer]; exact unheld)
  rw [h.shadow, unresolved, h.noted.shadow]
  rfl

theorem StoreAfterLookup.other_set {line : Word} (h : StoreAfterLookup s t line) {set : Fin 256} (other : set ≠ setOf line) :
    t.shadow.sets[set] = s.shadow.sets[set] :=
  Vector.ext fun w hw => (h.1 set ⟨w, hw⟩).trans (if_neg fun ⟨_, same, _⟩ => other same)

/-- R101, R110: the acknowledge of a line write reaches the set of the buffer's host line alone. -/
theorem exec_lineWriteAcknowledge_other_set {ack : Ack} (released : s.resetHeld = false)
    (hrec : s.bus.recordOf id = some { id, requester := .write c }) (h : exec (.lineWriteAcknowledge id ack) s = .next t)
    {set : Fin 256} (other : set ≠ setOf (s.chan c).buffer.line) : t.shadow.sets[set] = s.shadow.sets[set] := by
  by_cases writing : (s.chan c).buffer.state = .writing
  · obtain ⟨u, t', hexec, taken⟩ := exec_lineWriteAcknowledge_taken released hrec writing ack
    obtain rfl : t' = t := by
      rw [hexec] at h
      cases h
      rfl
    by_cases held : (s.chan c).buffer.reservation = .held
    · exact (taken.storeAfterLookup held).other_set other
    · rw [taken.shadow_of_unheld held]
  · have kept : (s.freeRecord id).lineWriteAck c ack = s.freeRecord id := if_neg writing
    rw [exec_lineWriteAcknowledge_of_record released hrec, kept] at h
    cases h
    simp

end

/-- Settles O37: set and tag are parts of the line address, and every operation on a line goes by them. -/
theorem setAndTag : Obligations.SetAndTag :=
  ⟨fun line => ⟨setOf_val line, tagOf_toNat line⟩, fun line _ => setOf_tagOf_add line, fun _ _ => line_eq_iff_setOf_tagOf,
    fun _ _ _ => Shadow.holds_record, fun _ _ _ => Shadow.holds_recordAll,
    fun _ _ _ _ _ released hrec h _ => exec_lineWriteAcknowledge_other_set released hrec h,
    by decide, by decide, by decide, by decide⟩

end Sys2Proof.Machine
end

section
/-!
SUPPORT. What a step can do to the invalidate queue, its places and the fault log, as one inductive of moves; and the
proof that every step is a chain of these moves: a law of the queue is kept by every step as soon as each move keeps it.
-/

namespace Sys2Proof.Machine

/-! ## The moves of the queue -/

/-- What a buffer shows the invalidate queue: its state and its reservation (R80). -/
def Buffer.Alike (a b : Buffer) : Prop := b.state = a.state ∧ b.reservation = a.reservation

/-- Everything that can happen to the queued entries, the waiters, the buffers' places and the fault log: a buffer is
flushed (R83), opened by a WRITE (R81), has its line write issued (R141) and acknowledged (R89), or is discarded (R91); the
head's KILL is issued (R141) and acknowledged (R131); a reset (R135, R173); and whatever else changes none of the
places and keeps the log within its bound. -/
inductive QueueMove : State → State → Prop
  | rest (s t) : t.inv = s.inv → (∀ c, (s.chan c).buffer.Alike (t.chan c).buffer) → (FaultLogLaw s → FaultLogLaw t) →
      QueueMove s t
  | flush (s c) : QueueMove s (s.flushBuffer c)
  | fill (s c b) : (s.chan c).buffer.state = .empty → b.state = .filling → b.reservation = .none →
      QueueMove s (s.setBuffer c b)
  | issueWrite (s c) : s.writeStands c = true →
      QueueMove s (s.setBuffer c { (s.chan c).buffer with state := .writing })
  | acknowledge (s c) : (s.chan c).buffer.state = .writing → QueueMove s (s.vacated c)
  | discard (s c) : QueueMove s (s.discardBuffer c)
  | issueKill (s e rest) : s.inv.entries = e :: rest →
      QueueMove s { s with inv := { s.inv with entries := { e with issued := true } :: rest } }
  | removeHead (s e rest) : s.inv.entries = e :: rest →
      QueueMove s ({ s with inv := { s.inv with entries := rest } } : State).grantPlace
  | resetBlocks (s) : QueueMove s s.resetBlocks
  | assertReset (s) : QueueMove s s.assertReset

/-- A state goes to another by moves of the queue. -/
abbrev QueueMoves : State → State → Prop := Relation.ReflTransGen QueueMove

theorem Buffer.Alike.refl (b : Buffer) : b.Alike b := ⟨rfl, rfl⟩

/-! ## Chains of moves -/

/-- The moves of an operation after those of what it is applied to. -/
theorem QueueMoves.after {s t u : State} (h₂ : QueueMoves t u) (h₁ : QueueMoves s t) : QueueMoves s u := h₁.trans h₂

/-- What the moves of the queue look at. -/
def State.queueParts (s : State) : Vector Channel 8 × InvQueue × FaultLog := (s.chans, s.inv, s.log)

/-- An update of the state's other parts. -/
theorem QueueMoves.of_parts {s t : State} (h : t.queueParts = s.queueParts) : QueueMoves s t := by
  simp only [State.queueParts, Prod.mk.injEq] at h
  obtain ⟨chans, inv, log⟩ := h
  refine .single (.rest s t inv (fun c => ?_) fun law => ?_)
  · rw [State.chan_of_chans chans]
    exact .refl _
  · rw [FaultLogLaw, log]
    exact law

/-- An update of the channels that the queue does not see. -/
theorem QueueMoves.of_buffers {s t : State} (chan : ∀ c, (s.chan c).buffer.Alike (t.chan c).buffer) (inv : t.inv = s.inv)
    (log : t.log = s.log) : QueueMoves s t :=
  .single (.rest s t inv chan fun law => by rw [FaultLogLaw, log]; exact law)

/-- One channel changed, its buffer alike. -/
theorem QueueMoves.modChan {s : State} {c : Chan} {f : Channel → Channel}
    (h : (s.chan c).buffer.Alike (f (s.chan c)).buffer) : QueueMoves s (s.modChan c f) :=
  .of_buffers (fun d => by
    rw [State.chan_modChan]
    split
    · next same => exact same ▸ h
    · exact .refl _) rfl rfl

theorem QueueMoves.foldl {α : Type} {f : State → α → State} (h : ∀ s a, QueueMoves s (f s a)) (l : List α) (s : State) :
    QueueMoves s (l.foldl f s) := by
  induction l generalizing s with
  | nil => exact .refl
  | cons a l ih => exact (ih (f s a)).after (h s a)

theorem QueueMoves.unlessReset {s : State} {f : State → State} (h : QueueMoves s (f s)) :
    QueueMoves s (s.unlessReset f) := State.unlessReset_keeps .refl fun _ => h

/-! ## The shared operations -/

section
variable (s : State) (c : Chan)

theorem State.answer_queueMoves (a : Answer) : QueueMoves s (s.answer c a) := .modChan (.refl _)

theorem State.flushBuffer_queueMoves : QueueMoves s (s.flushBuffer c) := .single (.flush s c)

/-- R153: a fault that finds 8 records is dropped. -/
theorem State.takeFault_queueMoves (k : Access) (a : ChanAddr) (x : Cause) : QueueMoves s (s.takeFault c k a x) := by
  have logged := s.takeFault_logged c k a x
  refine .single (.rest _ _ (by simp) (fun d => by rw [State.chan_takeFault]; exact .refl _) fun law => ?_)
  obtain ⟨-, records⟩ := logged
  unfold FaultLogLaw at law ⊢
  split at records
  · rw [records.1, List.length_append, List.length_singleton]
    omega
  · rw [records.1]
    exact law

theorem State.enterFaulted_queueMoves : QueueMoves s (s.enterFaulted c) := by
  unfold State.enterFaulted
  split
  · exact .after (.modChan (.refl _)) (s.flushBuffer_queueMoves c)
  · exact .refl

theorem State.failTransaction_queueMoves (k : Access) (a : ChanAddr) (x : Cause) (y : Answer) :
    QueueMoves s (s.failTransaction c k a x y) :=
  (State.enterFaulted_queueMoves ..).after ((State.takeFault_queueMoves ..).after (s.answer_queueMoves ..))

theorem State.settle_queueMoves : QueueMoves s (s.settle c) :=
  .of_buffers (fun d => by
    by_cases same : d = c
    · rw [same, State.settle_buffer]
      exact .refl _
    · rw [State.settle_chan_ne s c same]
      exact .refl _) (by simp) (by simp)

theorem State.freeSlot_queueMoves (i : Fin 2) : QueueMoves s (s.freeSlot i) :=
  .of_buffers (fun d => by rw [State.freeSlot_chan]; exact .refl _) (by simp) (by simp)

/-! ## The path of an access -/

theorem State.waitForBuffer_queueMoves (tr : Translation) : QueueMoves s (s.waitForBuffer c tr) := .modChan (.refl _)

/-- R81, R82: the merge of a WRITE opens an EMPTY buffer and leaves a FILLING one FILLING; it may then be flushed. -/
theorem State.mergeWrite_queueMoves {c : Chan}
    (ready : (s.chan c).buffer.state = .empty ∨ (s.chan c).buffer.state = .filling)
    (addr : ChanAddr) (data : WriteData) (tr : Translation) : QueueMoves s (s.mergeWrite c addr data tr) := by
  obtain ⟨timer, -, eq⟩ := s.mergeWrite_eq c addr data tr
  rw [eq]
  dsimp only
  have merged : QueueMoves s (s.setBuffer c (((s.chan c).buffer.mergeBase tr addr).merge tr data timer)) := by
    rcases ready with empty | filling
    · rw [Buffer.mergeBase_of_empty empty]
      exact .single (.fill s c _ empty rfl rfl)
    · rw [Buffer.mergeBase_of_filling filling]
      exact .modChan ⟨rfl, rfl⟩
  have answered := (State.answer_queueMoves _ c (.done [])).after merged
  split
  · exact (State.flushBuffer_queueMoves ..).after answered
  · exact answered

theorem State.placeWrite_queueMoves (addr : ChanAddr) (data : WriteData) (tr : Translation) :
    QueueMoves s (s.placeWrite c addr data tr) := by
  simp only [State.placeWrite]
  split
  · next empty => exact s.mergeWrite_queueMoves (.inl empty) addr data tr
  · next filling =>
    split
    · exact s.mergeWrite_queueMoves (.inr filling) addr data tr
    · exact (State.waitForBuffer_queueMoves ..).after (s.flushBuffer_queueMoves c)
  · exact s.waitForBuffer_queueMoves c tr
  · exact s.waitForBuffer_queueMoves c tr

theorem State.placeRead_queueMoves (size : Size) (tr : Translation) : QueueMoves s (s.placeRead c size tr) := by
  simp only [State.placeRead, State.serveRead]
  repeat' split
  · exact (State.waitForBuffer_queueMoves ..).after (s.flushBuffer_queueMoves c)
  · exact s.answer_queueMoves c _
  · exact .modChan (.refl _)

theorem State.checkRights_queueMoves (x : Xlat) : QueueMoves s (s.checkRights c x) := by
  unfold State.checkRights
  repeat' split
  · exact .refl
  · exact s.placeRead_queueMoves ..
  · exact s.failTransaction_queueMoves ..
  · exact s.placeWrite_queueMoves ..
  · exact s.failTransaction_queueMoves ..
  · exact .refl

theorem State.failWalk_queueMoves (x : Cause) : QueueMoves s (s.failWalk c x) := by
  unfold State.failWalk
  repeat' split
  · exact .refl
  · exact s.failTransaction_queueMoves ..
  · exact .refl

theorem State.walkReturn_queueMoves (i : Fin 2) (result : WalkResult) : QueueMoves s (s.walkReturn i result) := by
  simp only [State.walkReturn]
  repeat' split
  · exact .refl
  · exact .refl
  · exact (State.settle_queueMoves ..).after (s.freeSlot_queueMoves i)
  · exact .of_parts rfl
  · exact (State.settle_queueMoves ..).after ((State.failWalk_queueMoves ..).after (s.freeSlot_queueMoves i))
  · exact (State.settle_queueMoves ..).after ((State.failWalk_queueMoves ..).after (s.freeSlot_queueMoves i))
  · exact (State.settle_queueMoves ..).after ((State.checkRights_queueMoves ..).after
      ((State.freeSlot_queueMoves ..).after (.of_parts rfl)))

theorem State.startWalk_queueMoves (p : Page) : QueueMoves s (s.startWalk c p) :=
  .of_buffers (fun d => by rw [State.startWalk_chan]; exact .refl _) (by simp) (by simp)

theorem State.lookup_queueMoves : QueueMoves s (s.lookup c) := by
  unfold State.lookup
  repeat' split
  · exact .refl
  · exact (State.settle_queueMoves ..).after ((State.checkRights_queueMoves ..).after (.of_parts rfl))
  · exact (State.startWalk_queueMoves ..).after (.modChan (.refl _))

/-! ## Data returns and acknowledges -/

theorem State.answerRead_queueMoves (d : LineData) : QueueMoves s (s.answerRead c d) := by
  unfold State.answerRead
  split
  · exact s.answer_queueMoves ..
  · exact .refl

theorem State.lineReadReturn_queueMoves (result : LineResult) : QueueMoves s (s.lineReadReturn c result) := by
  have cleared : QueueMoves s (s.modChan c fun ch => { ch with lineRead := none }) := .modChan (.refl _)
  simp only [State.lineReadReturn]
  repeat' split
  · exact .refl
  · exact .refl
  · exact (State.settle_queueMoves ..).after cleared
  · exact (State.settle_queueMoves ..).after ((State.failTransaction_queueMoves ..).after cleared)
  · exact (State.settle_queueMoves ..).after cleared
  · exact (State.settle_queueMoves ..).after ((State.answerRead_queueMoves ..).after
      (.after (.modChan (.refl _)) cleared))

theorem State.errorNoted_queueMoves (ack : Ack) : QueueMoves s (s.errorNoted c ack) := by
  cases ack with
  | ok => exact .refl
  | busError =>
    exact .after (.modChan (.refl _)) ((State.enterFaulted_queueMoves ..).after (s.takeFault_queueMoves ..))

theorem State.restartWaiting_queueMoves : QueueMoves s (s.restartWaiting c) := by
  unfold State.restartWaiting
  split
  · exact s.placeWrite_queueMoves ..
  · exact s.placeRead_queueMoves ..
  · exact .refl

theorem State.lineWriteAck_eq (ack : Ack) :
    s.lineWriteAck c ack =
      if (s.chan c).buffer.state = .writing then (((s.errorNoted c ack).vacated c).restartWaiting c).settle c else s := by
  cases ack <;> rfl

theorem State.lineWriteAck_queueMoves (ack : Ack) : QueueMoves s (s.lineWriteAck c ack) := by
  rw [State.lineWriteAck_eq]
  split
  · next writing =>
    have still : ((s.errorNoted c ack).chan c).buffer.state = .writing := by
      rw [(State.errorNoted_noted writing ack).buffer]
      exact writing
    exact (State.settle_queueMoves ..).after ((State.restartWaiting_queueMoves ..).after
      ((QueueMoves.after (.single (.acknowledge _ c still))) (s.errorNoted_queueMoves c ack)))
  · exact .refl

end

section
variable (s : State)

theorem State.killAck_queueMoves (ack : Ack) : QueueMoves s (s.killAck ack) := by
  unfold State.killAck
  split
  · exact .refl
  · next e rest head =>
    split
    · refine .after (.foldl State.settle_queueMoves ..) ?_
      cases ack with
      | ok => exact .single (.removeHead s e rest head)
      | busError => exact .after (.single (.removeHead s.raiseKillFail e rest head)) (.of_parts rfl)
    · exact .refl

/-! ## The bus -/

theorem State.observe_queueMoves (w : BusWrite) : QueueMoves s (s.observe w) :=
  .of_buffers (fun c => by rw [State.observe_chan]; exact .refl _) (by simp) (by simp)

theorem State.issue_queueMoves {r : Requester} (chosen : s.chooseRequest = some r) : QueueMoves s (s.issue r) := by
  have stands := State.chooseRequest_stands chosen
  have recorded : QueueMoves s { s with bus := s.bus.issue r } := .of_parts rfl
  cases r with
  | walk i => exact .of_parts rfl
  | read c =>
    simp only [State.issue]
    exact .after (.modChan (.refl _)) recorded
  | write c =>
    simp only [State.issue]
    exact (State.observe_queueMoves ..).after (.after (.single (.issueWrite _ c stands)) recorded)
  | kill =>
    simp only [State.issue]
    split
    · exact recorded
    · next e rest head => exact .after (.single (.issueKill { s with bus := s.bus.issue .kill } e rest head)) recorded

theorem State.busGrant_queueMoves : QueueMoves s s.busGrant := by
  unfold State.busGrant
  repeat' split
  · next chosen => exact s.issue_queueMoves chosen
  · exact .refl
  · exact .refl

theorem State.endResetting_queueMoves : QueueMoves s s.endResetting := by
  rw [State.endResetting_eq]
  exact .of_parts rfl

theorem State.complete_queueMoves (k : Completion) : QueueMoves s (s.complete k) := by
  have freed (id : Nat) : QueueMoves s (s.freeRecord id) := .of_parts rfl
  unfold State.complete
  split <;> split
  · exact (State.endResetting_queueMoves _).after ((State.walkReturn_queueMoves ..).after (freed _))
  · exact .refl
  · exact (State.endResetting_queueMoves _).after ((State.lineReadReturn_queueMoves ..).after (freed _))
  · exact .refl
  · exact (State.endResetting_queueMoves _).after ((State.lineWriteAck_queueMoves ..).after (freed _))
  · exact .refl
  · exact (State.endResetting_queueMoves _).after ((State.killAck_queueMoves ..).after (freed _))
  · exact .refl

/-! ## Ports and time -/

theorem State.takeRequest_queueMoves (c : Chan) (r : Request) : QueueMoves s (s.takeRequest c r) := by
  unfold State.takeRequest State.acceptAccess State.acceptSync
  repeat' split
  · exact s.failTransaction_queueMoves ..
  · exact s.failTransaction_queueMoves ..
  · exact .modChan (.refl _)
  · exact (State.settle_queueMoves ..).after ((State.flushBuffer_queueMoves ..).after (.modChan (.refl _)))
  · exact s.answer_queueMoves ..

theorem State.portTake_queueMoves (c : Chan) : QueueMoves s (s.portTake c) := by
  unfold State.portTake
  split
  · exact (State.takeRequest_queueMoves ..).after (.modChan (.refl _))
  · exact .refl

theorem State.present_queueMoves (c : Chan) (r : Request) : QueueMoves s (s.present c r) := by
  unfold State.present
  exact .after (.unlessReset (State.portTake_queueMoves ..)) (.modChan (.refl _))

theorem State.tick_queueMoves : QueueMoves s s.tick := by
  by_cases stopped : s.time.divisor = 0
  · rw [State.tick, if_pos stopped]
  · obtain ⟨cs, n, -, -, ticked⟩ := State.tick_eq_foldl stopped
    rw [ticked]
    refine .after (.foldl State.flushBuffer_queueMoves ..) (.of_buffers (fun c => ?_) rfl rfl)
    rw [State.lowered_chan_eq]
    exact ⟨rfl, rfl⟩

theorem State.clockPeriod_queueMoves : QueueMoves s s.clockPeriod := by
  unfold State.clockPeriod
  repeat' split
  · exact .refl
  · exact .of_parts rfl
  · exact s.tick_queueMoves

theorem State.expireTimer_queueMoves (c : Chan) : QueueMoves s (s.expireTimer c) := by
  unfold State.expireTimer
  split
  · exact s.flushBuffer_queueMoves c
  · exact .refl

/-- The uncommanded step is a chain of moves of the queue. -/
theorem State.idle_queueMoves : QueueMoves s s.idle := by
  refine .unlessReset ?_
  split
  · exact s.portTake_queueMoves _
  · exact s.clockPeriod_queueMoves

/-! ## Commands -/

theorem State.stopTransaction_queueMoves (c : Chan) : QueueMoves s (s.stopTransaction c) :=
  .of_buffers (fun d => by
    by_cases same : d = c
    · rw [same, State.stopTransaction_chan_self]
      exact .refl _
    · rw [State.stopTransaction_chan_ne s c same]
      exact .refl _) (by simp) (by simp)

theorem State.abortChannel_queueMoves (c : Chan) : QueueMoves s (s.abortChannel c).1 := by
  by_cases running : (s.chan c).Running
  · rw [State.abortChannel_of_running running]
    dsimp only [State.startAbort]
    exact (State.settle_queueMoves ..).after (.after (.modChan (.refl _))
      (.after (.single (.discard _ c)) (s.stopTransaction_queueMoves c)))
  · rw [State.abortChannel_of_off (by cases h : (s.chan c).state <;> simp_all [Channel.Running])]

theorem State.disableChannel_queueMoves (c : Chan) : QueueMoves s (s.disableChannel c).1 := by
  by_cases on : (s.chan c).state = .active ∨ (s.chan c).state = .faulted
  · rw [State.disableChannel_of_on on]
    dsimp only [State.startDrain]
    exact (State.settle_queueMoves ..).after (.after (.modChan (.refl _)) (s.flushBuffer_queueMoves c))
  · rw [State.disableChannel_of_not_on on]

theorem State.enableChannel_queueMoves (c : Chan) : QueueMoves s (s.enableChannel c).1 := by
  simp only [State.enableChannel]
  repeat' split
  · exact .modChan (f := fun ch => { ch with state := .active }) (.refl _)
  · exact .refl
  · exact .refl

theorem State.resumeChannel_queueMoves (c : Chan) : QueueMoves s (s.resumeChannel c).1 := by
  simp only [State.resumeChannel]
  split
  · exact .modChan (f := fun ch => { ch with state := .active }) (.refl _)
  · exact .refl

theorem State.clearTags_queueMoves : QueueMoves s s.clearTags.1 :=
  .of_parts (by rw [State.queueParts, State.clearTags_chans]; simp [State.queueParts])

theorem State.dispatchCommand_queueMoves (n : CommandName) (channel : BitVec 4) (page : BitVec 14) :
    QueueMoves s (s.dispatchCommand n channel page) := by
  have completed {t : State} {o : CmdOutcome} (h : QueueMoves s t) :
      QueueMoves s (t.completeCommand n channel page o) := h.trans (QueueMoves.of_parts rfl)
  cases n with
  | chEnable => exact completed (s.enableChannel_queueMoves _)
  | chDisable => exact completed (s.disableChannel_queueMoves _)
  | chResume => exact completed (s.resumeChannel_queueMoves _)
  | chAbort => exact completed (s.abortChannel_queueMoves _)
  | tagsClear => exact completed s.clearTags_queueMoves
  | xlatFlushPage | xlatFlushChannel | xlatFlushAll | xlatProbe => exact .of_parts rfl

theorem State.command_queueMoves (n : CommandName) (channel : BitVec 4) (page : BitVec 14) :
    QueueMoves s (s.command n channel page) := by
  unfold State.command
  repeat' split
  · exact .of_parts rfl
  · exact .of_parts rfl
  · exact s.dispatchCommand_queueMoves ..
  · exact .of_parts rfl

theorem State.lookupService_queueMoves : QueueMoves s s.lookupService := by
  unfold State.lookupService
  split
  · exact (State.lookup_queueMoves ..).after (.of_parts rfl)
  · exact .refl

theorem State.commandService_queueMoves : QueueMoves s s.commandService :=
  .of_parts (by rw [State.queueParts, State.commandService_chans]; simp [State.queueParts])

theorem State.takeFill_queueMoves (line : Word) (w : Way) : QueueMoves s (s.takeFill line w) :=
  .of_parts (by rw [State.queueParts, State.takeFill_chans]; simp [State.queueParts])

theorem State.takeSweepStep_queueMoves : QueueMoves s s.takeSweepStep :=
  .of_parts (by rw [State.queueParts, State.takeSweepStep_chans]; simp [State.queueParts])

/-! ## Resets -/

theorem State.releaseReset_queueMoves (wsel1 wsel0 : Bool) : QueueMoves s (s.releaseReset wsel1 wsel0) :=
  .of_buffers (fun c => by
    rw [State.releaseReset_chan, Channel.atRelease]
    split <;> exact .refl _) rfl rfl

theorem State.softReset_queueMoves : QueueMoves s s.softReset := by
  cases h : s.bridge with
  | resetting => rw [State.softReset_of_resetting h]
  | running =>
    rw [State.softReset_of_running h]
    exact (State.endResetting_queueMoves _).after (.after (.single (.resetBlocks _))
      (.of_parts (by rw [State.stopCommand_eq]; rfl)))

/-! ## The register window, and every command -/

/-- R155: a record that leaves the log keeps it within its bound. -/
theorem State.popFault_queueMoves : QueueMoves s s.popFault :=
  .single (.rest _ _ rfl (fun _ => .refl _) fun law => (List.tail_sublist _).length_le.trans law)

theorem State.writeDescriptor_queueMoves (c : Chan) (reg : DescReg) (value : Word) :
    QueueMoves s (s.writeDescriptor c reg value) := by
  unfold State.writeDescriptor
  split
  · exact .modChan (.refl _)
  · exact .of_parts rfl

theorem State.writeShadowControl_queueMoves (mode : BitVec 2) (mask : BitVec 8) :
    QueueMoves s (s.writeShadowControl mode mask) := by
  unfold State.writeShadowControl
  split <;> exact .of_parts rfl

theorem State.writeReg_queueMoves (r : Reg) (value : Word) : QueueMoves s (s.writeReg r value) := by
  cases r with
  | ident | commandStatus | probeResult | shadowStatus | invalidateStatus | busStatus | faultHead0 | faultHead1
  | faultLogStatus | channelStatus => exact .refl
  | timebase | globalStatus | intCause | intMask | channelOffSet => exact .of_parts rfl
  | faultPop => exact s.popFault_queueMoves
  | resetControl =>
    simp only [State.writeReg]
    split
    · exact s.softReset_queueMoves
    · exact .refl
  | command =>
    simp only [State.writeReg, State.writeCommand]
    repeat' split
    · exact s.command_queueMoves ..
    · exact .of_parts rfl
    · exact .of_parts rfl
  | shadowControl => exact s.writeShadowControl_queueMoves ..
  | desc c reg => exact s.writeDescriptor_queueMoves c reg value

theorem State.windowWrite_queueMoves (addr : Word) (lanes : BitVec 4) (value : Word) :
    QueueMoves s (s.windowWrite addr lanes value) := by
  unfold State.windowWrite
  repeat' split
  · exact s.writeReg_queueMoves ..
  · exact .refl
  · exact .of_parts rfl
  · exact .refl

end

/-- Every command is a chain of moves of the queue. -/
theorem exec_queueMoves (i : Instr) (s t : State) (h : exec i s = .next t) : QueueMoves s t := by
  have effect {f : State → State} (hf : ∀ s, QueueMoves s (f s)) : QueueMoves s (s.unlessReset f) := .unlessReset (hf s)
  cases i <;> cases h
  case resetAssertion => exact effect fun s => .single (.assertReset s)
  case resetRelease =>
    split
    · exact s.releaseReset_queueMoves ..
    · exact .refl
  case read | write | sync => exact s.present_queueMoves ..
  case chEnable | chDisable | chResume | chAbort | xlatFlushPage | xlatFlushChannel | xlatFlushAll | xlatProbe
      | tagsClear => exact effect fun s => s.command_queueMoves ..
  case lookupService => exact effect State.lookupService_queueMoves
  case commandService => exact effect State.commandService_queueMoves
  case busGrant => exact effect State.busGrant_queueMoves
  case walkDataReturn | lineReadDataReturn | lineWriteAcknowledge | killAcknowledge | ignoredCompletion =>
    exact effect fun s => s.complete_queueMoves _
  case observedWrite => exact effect fun s => s.observe_queueMoves _
  case fill => exact effect fun s => s.takeFill_queueMoves ..
  case sweepStep => exact effect State.takeSweepStep_queueMoves
  case tick => exact effect State.tick_queueMoves
  case idleTimerExpiry => exact effect fun s => s.expireTimer_queueMoves _
  case softReset => exact effect State.softReset_queueMoves
  case faultPop => exact effect State.popFault_queueMoves
  case modeWrite => exact effect fun s => s.writeShadowControl_queueMoves ..
  case descriptorWrite => exact effect fun s => s.writeDescriptor_queueMoves ..
  case registerWrite => exact effect fun s => s.windowWrite_queueMoves ..
  case divisorWrite | wayMaskWrite | globalStatusClear | intCauseClear | channelOffClear | intMaskWrite =>
    exact effect fun _ => .of_parts rfl

/-- A law that does not look at the commands that wait, and that every move of the queue keeps, is kept by every step. -/
theorem keptByStep_of_queueMove {law : State → Prop} (queue : ∀ s l, law s → law { s with pending := l })
    (keep : ∀ {s t}, QueueMove s t → law s → law t) : KeptByStep law := by
  have chain {s t : State} (moves : QueueMoves s t) (h : law s) : law t := by
    induction moves with
    | refl => exact h
    | tail _ move ih => exact keep move ih
  exact fun _ _ hs step => step_keeps queue (fun s => chain s.idle_queueMoves)
    (fun i s t h he => chain (exec_queueMoves i s t he) h) hs step

end Sys2Proof.Machine
end

section
/-!
SUPPORT. What each move of the queue makes of the queued entries and of the fault log, and the laws of the entries (R127,
R129) and of the log (R150).
-/

namespace Sys2Proof.Machine

/-! ## The moves of the entries -/

/-- Everything that can happen to the queued entries: a writer joins the unissued entry of its line or, with none, a new
one (R127); the head is issued (R141) or removed (R131); a reset empties the queue (R135). -/
inductive EntriesMove : List InvEntry → List InvEntry → Prop
  | same (l) : EntriesMove l l
  | join (l line c) : EntriesMove l (joined l line c)
  | append (l e) : e.issued = false → (∀ x ∈ l, x.issued = false → x.line ≠ e.line) → EntriesMove l (l ++ [e])
  | issueHead (e rest) : EntriesMove (e :: rest) ({ e with issued := true } :: rest)
  | removeHead (e rest) : EntriesMove (e :: rest) rest
  | clear (l) : EntriesMove l []

theorem EntriesMove.of_eq {l l' : List InvEntry} (h : l' = l) : EntriesMove l l' := h ▸ .same l

/-- R89 step 2, R127: the acknowledge of a line write joins or appends an entry, or leaves the entries as they are. -/
theorem State.resolveReservation_entriesMove (s : State) (c : Chan) :
    EntriesMove s.inv.entries (s.resolveReservation c).inv.entries := by
  by_cases held : (s.chan c).buffer.reservation = .held
  · obtain ⟨joins, appends, releases⟩ := State.resolveReservation_entries held
    by_cases queues : LookupQueues s (s.chan c).buffer.line
    · by_cases merges : ∃ e ∈ s.inv.entries, e.line = (s.chan c).buffer.line ∧ e.issued = false
      · rw [joins queues merges]
        exact .join ..
      · rw [appends queues merges]
        exact .append _ _ rfl fun e he unissued same => merges ⟨e, he, same, unissued⟩
    · exact .of_eq (releases queues)
  · exact .of_eq (by rw [State.resolveReservation, if_neg held])

theorem QueueMove.entries {s t : State} (move : QueueMove s t) : EntriesMove s.inv.entries t.inv.entries := by
  cases move with
  | rest t inv => exact .of_eq (by rw [inv])
  | flush c => exact .of_eq (s.flushBuffer_entries c)
  | fill | issueWrite | resetBlocks => exact .same _
  | acknowledge c => exact s.resolveReservation_entriesMove c
  | discard c => exact .of_eq State.discardBuffer_entries
  | issueKill e rest head => rw [head]; exact .issueHead e rest
  | removeHead e rest head => rw [head, State.grantPlace_entries]; exact .removeHead e rest
  | assertReset => exact .clear _

/-! ## The laws of the entries (R127, R129) -/

/-- R127: the law of the unissued entries, of the entries alone. -/
def LinesDistinct (l : List InvEntry) : Prop := ((l.filter fun e => !e.issued).map InvEntry.line).Nodup

/-- R127, R129: the law of the issued head, of the entries alone. -/
def HeadAlone (l : List InvEntry) : Prop := ∀ e ∈ l.tail, e.issued = false

/-- R127: a join changes no entry's line and issues none. -/
theorem joined_eq_map (l : List InvEntry) (line : Word) (c : Chan) :
    ∃ f : InvEntry → InvEntry, (∀ e, (f e).line = e.line) ∧ (∀ e, (f e).issued = e.issued) ∧ joined l line c = l.map f :=
  by
  refine ⟨_, fun e => ?_, fun e => ?_, rfl⟩ <;> split <;> rfl

theorem LinesDistinct.joined {l : List InvEntry} (h : LinesDistinct l) (line : Word) (c : Chan) :
    LinesDistinct (joined l line c) := by
  obtain ⟨f, sameLine, sameIssued, eq⟩ := joined_eq_map l line c
  have lines : (InvEntry.line ∘ f) = InvEntry.line := funext sameLine
  have unissued : ((fun e : InvEntry => !e.issued) ∘ f) = fun e => !e.issued := funext fun e => congrArg _ (sameIssued e)
  rw [LinesDistinct, eq, List.filter_map, List.map_map, lines, unissued]
  exact h

theorem LinesDistinct.append {l : List InvEntry} (h : LinesDistinct l) {e : InvEntry} (unissued : e.issued = false)
    (new : ∀ x ∈ l, x.issued = false → x.line ≠ e.line) : LinesDistinct (l ++ [e]) := by
  have fresh : e.line ∉ (l.filter fun x => !x.issued).map InvEntry.line := by simpa using new
  have listed : ((l ++ [e]).filter fun x => !x.issued).map InvEntry.line =
      ((l.filter fun x => !x.issued).map InvEntry.line).concat e.line := by simp [unissued]
  rw [LinesDistinct, listed]
  exact List.Nodup.concat fresh h

theorem LinesDistinct.sublist {l l' : List InvEntry} (h : LinesDistinct l) (sub : l'.Sublist l) : LinesDistinct l' :=
  List.Nodup.sublist ((sub.filter _).map _) h

/-- R127: each move of the entries keeps the lines of the unissued ones distinct. -/
theorem EntriesMove.keeps_linesDistinct {l l' : List InvEntry} (move : EntriesMove l l') (h : LinesDistinct l) :
    LinesDistinct l' := by
  cases move with
  | same => exact h
  | join _ line c => exact h.joined line c
  | append _ e unissued new => exact h.append unissued new
  | issueHead e rest => exact h.sublist (l' := rest) (List.sublist_cons_self e rest)
  | removeHead e rest => exact h.sublist (List.sublist_cons_self e l')
  | clear => exact .nil

/-- R129: each move of the entries issues the head alone. -/
theorem EntriesMove.keeps_headAlone {l l' : List InvEntry} (move : EntriesMove l l') (h : HeadAlone l) : HeadAlone l' := by
  cases move with
  | same | issueHead => exact h
  | join _ line c =>
    obtain ⟨f, -, sameIssued, eq⟩ := joined_eq_map l line c
    rw [HeadAlone, eq, ← List.map_tail, List.forall_mem_map]
    exact fun e he => (sameIssued e).trans (h e he)
  | append _ e unissued =>
    cases l with
    | nil => exact nofun
    | cons x l =>
      intro y hy
      rcases List.mem_append.mp hy with old | new
      · exact h y old
      · exact List.mem_singleton.mp new ▸ unissued
  | removeHead _ rest => exact fun x hx => h x (List.mem_of_mem_tail hx)
  | clear => exact nofun

theorem unissuedLinesLaw_kept : KeptByStep UnissuedLinesLaw :=
  keptByStep_of_queueMove (fun _ _ h => h) fun move => move.entries.keeps_linesDistinct

theorem headIssuedLaw_kept : KeptByStep HeadIssuedLaw :=
  keptByStep_of_queueMove (fun _ _ h => h) fun move => move.entries.keeps_headAlone

/-! ## The law of the fault log (R150) -/

/-- R150: no other move of the queue adds to the log, and a reset empties it. -/
theorem QueueMove.keeps_faultLogLaw {s t : State} (move : QueueMove s t) (law : FaultLogLaw s) : FaultLogLaw t := by
  have same {u : State} (log : u.log = s.log) : FaultLogLaw u := by
    rw [FaultLogLaw, log]
    exact law
  cases move with
  | rest t _ _ kept => exact kept law
  | flush | discard | removeHead => exact same (by simp)
  | fill | issueWrite | issueKill => exact same rfl
  | acknowledge c => exact same (by rw [State.vacated_eq])
  | resetBlocks | assertReset => exact Nat.zero_le 8

theorem faultLogLaw_kept : KeptByStep FaultLogLaw :=
  keptByStep_of_queueMove (fun _ _ h => h) QueueMove.keeps_faultLogLaw

end Sys2Proof.Machine
end

section
/-!
SUPPORT. The places in use after each move of the queue (R122 to R126), and the law that they never number more than 8.
-/

namespace Sys2Proof.Machine

/-! ## One buffer's place -/

/-- The invalidate queue set to `inv` and channel `c`'s buffer to `b`: what every change of the places is made of. -/
def State.placed (s : State) (c : Chan) (inv : InvQueue) (b : Buffer) : State := ({ s with inv := inv } : State).setBuffer c b

/-- R122: the place a buffer holds. -/
def Buffer.places (b : Buffer) : Nat := if b.reservation = .held then 1 else 0

theorem Buffer.places_of_held {b : Buffer} (h : b.reservation = .held) : b.places = 1 := if_pos h

theorem Buffer.places_of_none {b : Buffer} (h : b.reservation = .none) : b.places = 0 := if_neg (by rw [h]; nofun)

theorem Buffer.places_of_waiting {b : Buffer} (h : b.reservation = .waiting) : b.places = 0 := if_neg (by rw [h]; nofun)

theorem Buffer.places_le (b : Buffer) : b.places ≤ 1 := by
  unfold Buffer.places
  split <;> omega

section
variable {s : State} {c : Chan} {inv : InvQueue} {b : Buffer}

theorem State.placed_inv : (s.placed c inv b).inv = inv := rfl

theorem State.placed_chan_self : (s.placed c inv b).chan c = { s.chan c with buffer := b } :=
  State.chan_modChan_self ..

theorem State.placed_chan_ne {d : Chan} (hd : d ≠ c) : (s.placed c inv b).chan d = s.chan d :=
  State.chan_modChan_ne _ (Ne.symm hd) _

/-- R122: a change of one buffer and of the entries changes the places in use by theirs alone. -/
theorem State.placesInUse_placed :
    (s.placed c inv b).placesInUse + (s.chan c).buffer.places + s.inv.entries.length =
      s.placesInUse + b.places + inv.entries.length := by
  have counted : (s.placed c inv b).reservations + (s.chan c).buffer.places = s.reservations + b.places :=
    State.reservations_setChan { s with inv := inv } c { s.chan c with buffer := b }
  simp only [State.placesInUse, State.placed_inv]
  omega

theorem State.placesInUse_placed_of_entries (same : inv.entries = s.inv.entries) :
    (s.placed c inv b).placesInUse + (s.chan c).buffer.places = s.placesInUse + b.places := by
  have balance := State.placesInUse_placed (s := s) (c := c) (inv := inv) (b := b)
  rw [same] at balance
  omega

end

/-! ## What the operations make of a place -/

/-- R83, R87, R123: the flush of a FILLING buffer, by its reservation decision: none needed, a place granted, or the tail of
the waiters. -/
theorem State.flushBuffer_placed {s : State} {c : Chan} (filling : (s.chan c).buffer.state = .filling) :
    ∃ b : Buffer, b.state = .pending ∧
      ((b.reservation = .none ∧ s.flushBuffer c = s.placed c s.inv b) ∨
        (b.reservation = .held ∧ s.placesInUse < 8 ∧ s.flushBuffer c = s.placed c s.inv b) ∨
        (b.reservation = .waiting ∧ 8 ≤ s.placesInUse ∧
          s.flushBuffer c = s.placed c { s.inv with waiters := s.inv.waiters ++ [c] } b)) := by
  simp only [State.flushBuffer, filling, if_true]
  split
  · split
    · next room => exact ⟨_, rfl, .inr (.inl ⟨rfl, room, rfl⟩)⟩
    · next full => exact ⟨_, rfl, .inr (.inr ⟨rfl, by omega, rfl⟩)⟩
  · exact ⟨_, rfl, .inl ⟨rfl, rfl⟩⟩

/-- R89 step 2: the reservation of channel `c`'s buffer ended, with the store `sh` that the lookup leaves and the entries
`l`; what becomes of the place is still to be seen. -/
def State.unreserved (s : State) (c : Chan) (sh : Shadow) (l : List InvEntry) : State :=
  ({ s with shadow := sh } : State).placed c { s.inv with entries := l }
    { (s.chan c).buffer with reservation := .none }

theorem State.unreserved_reservation (s : State) (c : Chan) (sh : Shadow) (l : List InvEntry) :
    ((s.unreserved c sh l).chan c).buffer.reservation = .none := by
  rw [State.unreserved, State.placed_chan_self]

theorem State.placesInUse_unreserved {s : State} {c : Chan} (held : (s.chan c).buffer.reservation = .held) (sh : Shadow)
    (l : List InvEntry) :
    (s.unreserved c sh l).placesInUse + 1 + s.inv.entries.length = s.placesInUse + l.length := by
  have balance : (s.unreserved c sh l).placesInUse + (s.chan c).buffer.places + s.inv.entries.length =
      s.placesInUse + 0 + l.length := State.placesInUse_placed
  rw [Buffer.places_of_held held] at balance
  exact balance

/-- R125 to R127: the resolution of a reservation ends it; its place is handed on, or becomes an entry's. -/
theorem State.resolveReservation_unreserved {s : State} {c : Chan} (held : (s.chan c).buffer.reservation = .held) :
    ∃ sh l, (s.resolveReservation c = (s.unreserved c sh l).grantPlace ∧ l.length = s.inv.entries.length) ∨
      (s.resolveReservation c = s.unreserved c sh l ∧ l.length = s.inv.entries.length + 1) := by
  refine ⟨s.shadow.afterLookup (s.chan c).buffer.line, ?_⟩
  simp only [State.resolveReservation, if_pos held]
  split
  · simp only [State.queueInvalidate]
    split
    · exact ⟨_, .inl ⟨rfl, List.length_map ..⟩⟩
    · exact ⟨_, .inr ⟨rfl, List.length_append⟩⟩
  · exact ⟨_, .inl ⟨rfl, rfl⟩⟩

/-! ## The law of the places (R122) -/

section
variable {s : State} {c : Chan} (law : PlacesLaw s)
include law

/-- R125: a place is handed on only while fewer than 8 are in use. -/
theorem PlacesLaw.grantPlace : PlacesLaw s.grantPlace := by
  obtain ⟨same, -⟩ | ⟨d, rest, -, room, granted⟩ := s.grantPlace_cases
  · rwa [same]
  · have balance := State.placesInUse_placed_of_entries (s := s) (c := d) (inv := { s.inv with waiters := rest })
      (b := { (s.chan d).buffer with reservation := .held }) rfl
    have one := Buffer.places_le { (s.chan d).buffer with reservation := .held }
    rw [State.placed, ← granted] at balance
    unfold PlacesLaw
    omega

/-- A change that adds no entry and gives the buffer no place. -/
theorem PlacesLaw.placed {inv : InvQueue} {b : Buffer} (entries : inv.entries.length ≤ s.inv.entries.length)
    (kept : b.places ≤ (s.chan c).buffer.places) : PlacesLaw (s.placed c inv b) := by
  have balance := State.placesInUse_placed (s := s) (c := c) (inv := inv) (b := b)
  unfold PlacesLaw at law ⊢
  omega

theorem PlacesLaw.emptied : PlacesLaw (s.setBuffer c Buffer.cleared) := law.placed (inv := s.inv) le_rfl (Nat.zero_le _)

theorem PlacesLaw.flushBuffer : PlacesLaw (s.flushBuffer c) := by
  by_cases filling : (s.chan c).buffer.state = .filling
  · obtain ⟨b, -, ⟨none, flushed⟩ | ⟨-, room, flushed⟩ | ⟨waiting, -, flushed⟩⟩ := State.flushBuffer_placed filling
    · rw [flushed]
      exact law.placed le_rfl (by rw [Buffer.places_of_none none]; exact Nat.zero_le _)
    · have balance := State.placesInUse_placed_of_entries (s := s) (c := c) (inv := s.inv) (b := b) rfl
      have one := b.places_le
      rw [flushed]
      unfold PlacesLaw
      omega
    · rw [flushed]
      exact law.placed le_rfl (by rw [Buffer.places_of_waiting waiting]; exact Nat.zero_le _)
  · rwa [State.flushBuffer_of_not_filling filling]

/-- R126, R127: the place of a reservation that ends is freed, or becomes an entry's. -/
theorem PlacesLaw.resolveReservation : PlacesLaw (s.resolveReservation c) := by
  by_cases held : (s.chan c).buffer.reservation = .held
  case neg => rwa [State.resolveReservation, if_neg held]
  obtain ⟨sh, l, resolved⟩ := State.resolveReservation_unreserved held
  have balance := State.placesInUse_unreserved held sh l
  have before : s.placesInUse ≤ 8 := law
  obtain ⟨freed, length⟩ | ⟨appended, length⟩ := resolved
  · have left : PlacesLaw (s.unreserved c sh l) := show State.placesInUse _ ≤ 8 by omega
    rw [freed]
    exact left.grantPlace
  · rw [appended, PlacesLaw]
    omega

theorem PlacesLaw.discardBuffer : PlacesLaw (s.discardBuffer c) := by
  by_cases discarded : (s.chan c).buffer.state = .filling ∨ (s.chan c).buffer.state = .pending
  · have dropped : PlacesLaw (s.bufferDropped c) :=
      law.placed (inv := { s.inv with waiters := s.inv.waiters.filter fun d => d ≠ c }) le_rfl (Nat.zero_le _)
    rw [State.discardBuffer_of_discarded discarded]
    split
    · exact dropped.grantPlace
    · exact dropped
  · rwa [State.discardBuffer_of_kept (BufState.kept_of_not_discarded discarded)]

end

/-- R92: a soft reset gives no buffer a place. -/
theorem Channel.softReset_held {ch : Channel} (h : ch.softReset.buffer.reservation = .held) :
    ch.buffer.state = .writing ∧ ch.buffer.reservation = .held := by
  simp only [Channel.softReset] at h
  split at h
  · next writing => exact ⟨writing, h⟩
  · cases h

theorem State.placesInUse_resetBlocks_le (s : State) : s.resetBlocks.placesInUse ≤ s.placesInUse := by
  have fewer : s.resetBlocks.reservations ≤ s.reservations := by
    simp only [State.reservations, State.resetBlocks, Vector.toList_map, List.countP_map]
    refine List.countP_mono_left fun ch _ h => ?_
    rw [Function.comp_apply, beq_iff_eq] at h
    exact beq_iff_eq.mpr (Channel.softReset_held h).2
  exact Nat.add_le_add_left fewer _

theorem State.assertReset_buffer (s : State) (c : Chan) : (s.assertReset.chan c).buffer = Buffer.cleared := by
  rw [State.assertReset_chan]
  rfl

theorem State.placesInUse_assertReset (s : State) : s.assertReset.placesInUse = 0 :=
  State.placesInUse_eq_zero rfl fun c => by rw [State.assertReset_buffer]; nofun

/-- R122: each move of the queue keeps the places in use at 8 or fewer. -/
theorem QueueMove.keeps_placesLaw {s t : State} (move : QueueMove s t) (law : PlacesLaw s) : PlacesLaw t := by
  cases move with
  | rest t inv buffers => exact (State.placesInUse_congr inv fun c => (buffers c).2).le.trans law
  | flush c => exact law.flushBuffer
  | fill c b _ _ none =>
    exact law.placed (inv := s.inv) le_rfl (by rw [Buffer.places_of_none none]; exact Nat.zero_le _)
  | issueWrite c => exact law.placed (inv := s.inv) le_rfl le_rfl
  | acknowledge c => exact (PlacesLaw.resolveReservation law).emptied
  | discard c => exact law.discardBuffer
  | issueKill e rest head =>
    have length : (({ e with issued := true } : InvEntry) :: rest).length = s.inv.entries.length := by rw [head]; rfl
    unfold PlacesLaw at law ⊢
    simp only [State.placesInUse, length]
    exact law
  | removeHead e rest head =>
    refine PlacesLaw.grantPlace ?_
    have length : s.inv.entries.length = rest.length + 1 := by rw [head]; rfl
    have fewer : rest.length + s.reservations ≤ s.inv.entries.length + s.reservations := by omega
    exact fewer.trans law
  | resetBlocks => exact s.placesInUse_resetBlocks_le.trans law
  | assertReset => exact s.placesInUse_assertReset.le.trans (Nat.zero_le 8)

theorem placesLaw_kept : KeptByStep PlacesLaw := keptByStep_of_queueMove (fun _ _ h => h) QueueMove.keeps_placesLaw

end Sys2Proof.Machine
end

section
/-!
SUPPORT. The law of the waiters (R122 to R125): every move of the queue keeps it, by way of the states in which one place
has come free and is not yet handed on; O53.
-/

namespace Sys2Proof.Machine

/-- R122, R123: a buffer holds a place only while PENDING or WRITING, and waits for one only while PENDING. -/
structure Buffer.PlaceFits (b : Buffer) : Prop where
  held : b.reservation = .held → b.state = .pending ∨ b.state = .writing
  waiting : b.reservation = .waiting → b.state = .pending

/-- The law of the waiters in a state in which `free` places have come free and are still to be handed on (R125). -/
structure WaitersFit (s : State) (free : Nat) : Prop where
  buffer : ∀ c, (s.chan c).buffer.PlaceFits
  mem : ∀ c, c ∈ s.inv.waiters ↔ (s.chan c).buffer.reservation = .waiting
  nodup : s.inv.waiters.Nodup
  full : s.inv.waiters ≠ [] → s.placesInUse + free = 8
  most : s.placesInUse + free ≤ 8

theorem waiterLaw_iff (s : State) : WaiterLaw s ↔ WaitersFit s 0 :=
  ⟨fun ⟨held, waiting, mem, nodup, full, most⟩ => ⟨fun c => ⟨held c, waiting c⟩, mem, nodup, full, most⟩,
    fun h => ⟨fun c => (h.buffer c).held, fun c => (h.buffer c).waiting, h.mem, h.nodup, h.full, h.most⟩⟩

theorem Buffer.PlaceFits.of_none {b : Buffer} (none : b.reservation = .none) : b.PlaceFits :=
  ⟨fun h => absurd (none.symm.trans h) nofun, fun h => absurd (none.symm.trans h) nofun⟩

theorem Buffer.PlaceFits.of_pending {b : Buffer} (pending : b.state = .pending) : b.PlaceFits :=
  ⟨fun _ => .inl pending, fun _ => pending⟩

theorem Buffer.PlaceFits.of_alike {a b : Buffer} (h : a.PlaceFits) (alike : a.Alike b) : b.PlaceFits := by
  obtain ⟨state, reservation⟩ := alike
  constructor <;> rw [state, reservation]
  · exact h.held
  · exact h.waiting

/-- R80: an EMPTY or FILLING buffer has no reservation. -/
theorem Buffer.PlaceFits.none_of_open {b : Buffer} (h : b.PlaceFits) (isOpen : b.state = .empty ∨ b.state = .filling) :
    b.reservation = .none := by
  cases reservation : b.reservation with
  | none => rfl
  | held => rcases isOpen with e | e <;> rcases h.held reservation with e' | e' <;> simp [e] at e'
  | waiting => rcases isOpen with e | e <;> simp [h.waiting reservation] at e

/-- R122: a WRITING buffer that holds no place has no reservation. -/
theorem Buffer.PlaceFits.none_of_writing {b : Buffer} (h : b.PlaceFits) (writing : b.state = .writing)
    (free : b.reservation ≠ .held) : b.reservation = .none := by
  cases reservation : b.reservation with
  | none => rfl
  | held => exact absurd reservation free
  | waiting => exact absurd (writing.symm.trans (h.waiting reservation)) nofun

theorem filter_ne_of_not_mem {c : Chan} {l : List Chan} (h : c ∉ l) : (l.filter fun d => d ≠ c) = l :=
  List.filter_eq_self.mpr fun _ hd => decide_eq_true (ne_of_mem_of_not_mem hd h)

section
variable {s t : State} {n m : Nat} {c : Chan}

/-- The law of the waiters looks at no more than the buffers, the waiters and the number of places in use. -/
theorem WaitersFit.congr (fit : WaitersFit s n) (buffers : ∀ c, (s.chan c).buffer.Alike (t.chan c).buffer)
    (waiters : t.inv.waiters = s.inv.waiters) (places : t.placesInUse + m = s.placesInUse + n) : WaitersFit t m where
  buffer c := (fit.buffer c).of_alike (buffers c)
  mem c := by rw [waiters, fit.mem, (buffers c).2]
  nodup := waiters ▸ fit.nodup
  full := by rw [waiters, places]; exact fit.full
  most := places.le.trans fit.most

/-- One buffer and the waiters changed. -/
theorem WaitersFit.placed {inv : InvQueue} {b : Buffer} (fit : WaitersFit s n) (fits : b.PlaceFits)
    (self : c ∈ inv.waiters ↔ b.reservation = .waiting) (others : ∀ d, d ≠ c → (d ∈ inv.waiters ↔ d ∈ s.inv.waiters))
    (nodup : inv.waiters.Nodup) (full : inv.waiters ≠ [] → (s.placed c inv b).placesInUse + m = 8)
    (most : (s.placed c inv b).placesInUse + m ≤ 8) : WaitersFit (s.placed c inv b) m where
  buffer d := by
    by_cases same : d = c
    · rw [same, State.placed_chan_self]
      exact fits
    · rw [State.placed_chan_ne same]
      exact fit.buffer d
  mem d := by
    by_cases same : d = c
    · rw [same, State.placed_chan_self]
      exact self
    · rw [State.placed_chan_ne same]
      exact (others d same).trans (fit.mem d)
  nodup := nodup
  full := full
  most := most

/-- One buffer changed that does not join the waiters: the places in use and those come free stay the same in number. -/
theorem WaitersFit.placed_of_balance {inv : InvQueue} {b : Buffer} (fit : WaitersFit s n) (fits : b.PlaceFits)
    (served : b.reservation ≠ .waiting) (left : inv.waiters = s.inv.waiters.filter fun d => d ≠ c)
    (balance : (s.placed c inv b).placesInUse + m = s.placesInUse + n) : WaitersFit (s.placed c inv b) m := by
  have waiting (h : inv.waiters ≠ []) : s.inv.waiters ≠ [] := fun none => h (by rw [left, none]; rfl)
  refine fit.placed fits (iff_of_false (by simp [left]) served) (fun d hd => by simp [left, hd])
    (left ▸ fit.nodup.filter _) (fun h => balance.trans (fit.full (waiting h))) (balance.le.trans fit.most)

/-- The buffer of a channel that does not wait changed, and the waiters kept. -/
theorem WaitersFit.replaced {b : Buffer} (fit : WaitersFit s n) (unlisted : c ∉ s.inv.waiters) (fits : b.PlaceFits)
    (served : b.reservation ≠ .waiting) (same : b.places = (s.chan c).buffer.places) : WaitersFit (s.setBuffer c b) n := by
  have balance := State.placesInUse_placed_of_entries (s := s) (c := c) (inv := s.inv) (b := b) rfl
  exact fit.placed_of_balance (inv := s.inv) fits served (filter_ne_of_not_mem unlisted).symm (by omega)

theorem WaitersFit.not_mem_of_ne_waiting (fit : WaitersFit s n) (served : (s.chan c).buffer.reservation ≠ .waiting) :
    c ∉ s.inv.waiters := mt (fit.mem c).mp served

/-- R125: the place that has come free goes to the head waiter, or stays free when none waits. -/
theorem WaitersFit.grantPlace (fit : WaitersFit s 1) : WaitersFit s.grantPlace 0 := by
  obtain ⟨same, none⟩ | ⟨c, rest, head, room, granted⟩ := s.grantPlace_cases
  · have most := fit.most
    have left : s.inv.waiters = [] := none.resolve_right (by omega)
    rw [same]
    exact ⟨fit.buffer, fit.mem, fit.nodup, fun h => absurd left h, by omega⟩
  · have once := fit.nodup
    rw [head] at once
    obtain ⟨fresh, -⟩ := List.nodup_cons.mp once
    have listed : c ∈ s.inv.waiters := by rw [head]; exact List.mem_cons_self
    have waiting := (fit.mem c).mp listed
    have balance := State.placesInUse_placed_of_entries (s := s) (c := c) (inv := { s.inv with waiters := rest })
      (b := { (s.chan c).buffer with reservation := .held }) rfl
    rw [Buffer.places_of_waiting waiting, Buffer.places_of_held rfl] at balance
    have left : rest = s.inv.waiters.filter fun d => d ≠ c := by
      rw [head, List.filter_cons_of_neg (by simp), filter_ne_of_not_mem fresh]
    rw [granted]
    exact fit.placed_of_balance (.of_pending ((fit.buffer c).waiting waiting)) nofun left balance

/-- R125: a grant changes no channel that does not wait. -/
theorem State.grantPlace_chan_of_not_mem (unlisted : c ∉ s.inv.waiters) : s.grantPlace.chan c = s.chan c := by
  obtain ⟨same, -⟩ | ⟨d, rest, head, -, granted⟩ := s.grantPlace_cases
  · rw [same]
  · rw [granted]
    exact State.placed_chan_ne fun same => unlisted (by rw [head, same]; exact List.mem_cons_self)

/-- R83, R87, R123: a flushed buffer takes a place, or joins the waiters once all are in use. -/
theorem WaitersFit.flushBuffer (fit : WaitersFit s 0) (c : Chan) : WaitersFit (s.flushBuffer c) 0 := by
  by_cases filling : (s.chan c).buffer.state = .filling
  case neg => rwa [State.flushBuffer_of_not_filling filling]
  have none : (s.chan c).buffer.reservation = .none := (fit.buffer c).none_of_open (.inr filling)
  have unlisted : c ∉ s.inv.waiters := fit.not_mem_of_ne_waiting (by rw [none]; nofun)
  have free := Buffer.places_of_none none
  have most := fit.most
  obtain ⟨b, pending, ⟨reservation, flushed⟩ | ⟨held, room, flushed⟩ | ⟨waiting, all, flushed⟩⟩ :=
    State.flushBuffer_placed filling
  · rw [flushed]
    refine fit.replaced unlisted (.of_pending pending) (by rw [reservation]; nofun) ?_
    rw [free, Buffer.places_of_none reservation]
  · have balance := State.placesInUse_placed_of_entries (s := s) (c := c) (inv := s.inv) (b := b) rfl
    rw [free, Buffer.places_of_held held] at balance
    have idle : s.inv.waiters = [] := by
      by_contra waiters
      have := fit.full waiters
      omega
    rw [flushed]
    exact fit.placed (.of_pending pending) (iff_of_false unlisted (by rw [held]; nofun)) (fun _ _ => Iff.rfl) fit.nodup
      (fun waiters => absurd idle waiters) (by omega)
  · have balance := State.placesInUse_placed_of_entries (s := s) (c := c)
      (inv := { s.inv with waiters := s.inv.waiters ++ [c] }) (b := b) rfl
    rw [free, Buffer.places_of_waiting waiting] at balance
    rw [flushed]
    refine fit.placed (.of_pending pending) (iff_of_true (by simp) waiting) (fun d hd => by simp [hd]) ?_
      (fun _ => by omega) (by omega)
    rw [← List.concat_eq_append]
    exact fit.nodup.concat unlisted

/-- R80: a buffer with no reservation is emptied. -/
theorem WaitersFit.emptied (fit : WaitersFit s n) (none : (s.chan c).buffer.reservation = .none) :
    WaitersFit (s.setBuffer c Buffer.cleared) n :=
  fit.replaced (fit.not_mem_of_ne_waiting (by rw [none]; nofun)) (.of_none rfl) nofun (Buffer.places_of_none none).symm

/-- R126, R127: a reservation ends; the place it held has come free, or an entry takes it. -/
theorem WaitersFit.unreserved (fit : WaitersFit s 0) (held : (s.chan c).buffer.reservation = .held) (sh : Shadow)
    {l : List InvEntry} (length : l.length + n = s.inv.entries.length + 1) : WaitersFit (s.unreserved c sh l) n := by
  have unlisted : c ∉ s.inv.waiters := fit.not_mem_of_ne_waiting (by rw [held]; nofun)
  have balance := State.placesInUse_unreserved held sh l
  have looked : WaitersFit { s with shadow := sh } 0 := ⟨fit.buffer, fit.mem, fit.nodup, fit.full, fit.most⟩
  refine looked.placed_of_balance (.of_none rfl) nofun (filter_ne_of_not_mem unlisted).symm ?_
  change (s.unreserved c sh l).placesInUse + n = s.placesInUse + 0
  omega

/-- R126, R127: the acknowledge of a WRITING buffer's line write hands its place on, or turns it into an entry's, and
empties the buffer. -/
theorem WaitersFit.vacated (fit : WaitersFit s 0) (writing : (s.chan c).buffer.state = .writing) :
    WaitersFit (s.vacated c) 0 := by
  by_cases held : (s.chan c).buffer.reservation = .held
  · obtain ⟨sh, l, ⟨freed, length⟩ | ⟨appended, length⟩⟩ := State.resolveReservation_unreserved held
    all_goals have none := s.unreserved_reservation c sh l
    · have one : WaitersFit (s.unreserved c sh l) 1 := fit.unreserved held sh (by omega)
      have kept := State.grantPlace_chan_of_not_mem (one.not_mem_of_ne_waiting (by rw [none]; nofun))
      rw [State.vacated, freed]
      exact one.grantPlace.emptied (by rw [kept, none])
    · have all : WaitersFit (s.unreserved c sh l) 0 := fit.unreserved held sh (by omega)
      rw [State.vacated, appended]
      exact all.emptied none
  · rw [State.vacated, State.resolveReservation, if_neg held]
    exact fit.emptied ((fit.buffer c).none_of_writing writing held)

/-- R91, R125, R133: the discard of a buffer takes its channel off the waiters, or hands its place on. -/
theorem WaitersFit.discardBuffer (fit : WaitersFit s 0) (c : Chan) : WaitersFit (s.discardBuffer c) 0 := by
  by_cases discarded : (s.chan c).buffer.state = .filling ∨ (s.chan c).buffer.state = .pending
  case neg => rwa [State.discardBuffer_of_kept (BufState.kept_of_not_discarded discarded)]
  have balance := State.placesInUse_placed_of_entries (s := s) (c := c)
    (inv := { s.inv with waiters := s.inv.waiters.filter fun d => d ≠ c }) (b := Buffer.cleared) rfl
  rw [Buffer.places_of_none (b := Buffer.cleared) rfl] at balance
  have dropped {n : Nat} (taken : (s.chan c).buffer.places = n) : WaitersFit (s.bufferDropped c) n :=
    fit.placed_of_balance (.of_none rfl) nofun rfl (by omega)
  rw [State.discardBuffer_of_discarded discarded]
  split
  · next held => exact (dropped (Buffer.places_of_held held)).grantPlace
  · next free => exact dropped (if_neg free)

end

/-- R92: a soft reset clears the waiters and every buffer that is not WRITING. -/
theorem WaitersFit.resetBlocks {s : State} (fit : WaitersFit s 0) : WaitersFit s.resetBlocks 0 := by
  have buffer (c : Chan) : (s.resetBlocks.chan c).buffer = (s.chan c).softReset.buffer :=
    congrArg Channel.buffer (s.chan_with_chans_map Channel.softReset c)
  have settled (c : Chan) : (s.chan c).softReset.buffer.PlaceFits ∧ (s.chan c).softReset.buffer.reservation ≠ .waiting := by
    simp only [Channel.softReset]
    split
    · next writing =>
      exact ⟨fit.buffer c, fun waiting => absurd (writing.symm.trans ((fit.buffer c).waiting waiting)) nofun⟩
    · exact ⟨.of_none rfl, nofun⟩
  exact ⟨fun c => buffer c ▸ (settled c).1, fun c => iff_of_false List.not_mem_nil (buffer c ▸ (settled c).2), .nil,
    fun h => absurd rfl h, s.placesInUse_resetBlocks_le.trans fit.most⟩

theorem WaitersFit.assertReset (s : State) : WaitersFit s.assertReset 0 where
  buffer c := s.assertReset_buffer c ▸ .of_none rfl
  mem c := by
    rw [State.assertReset_buffer]
    exact iff_of_false List.not_mem_nil nofun
  nodup := .nil
  full h := absurd rfl h
  most := s.placesInUse_assertReset.le.trans (Nat.zero_le 8)

/-- R122 to R125: each move of the queue keeps the law of the waiters. -/
theorem QueueMove.keeps_waitersFit {s t : State} (move : QueueMove s t) (fit : WaitersFit s 0) : WaitersFit t 0 := by
  cases move with
  | rest t inv buffers =>
    exact fit.congr buffers (by rw [inv]) (State.placesInUse_congr inv fun c => (buffers c).2)
  | flush c => exact fit.flushBuffer c
  | fill c b empty _ reservation =>
    have none := (fit.buffer c).none_of_open (.inl empty)
    refine fit.replaced (fit.not_mem_of_ne_waiting (by rw [none]; nofun)) (.of_none reservation) (by rw [reservation]; nofun) ?_
    rw [Buffer.places_of_none reservation, Buffer.places_of_none none]
  | issueWrite c stands =>
    have served : (s.chan c).buffer.reservation ≠ .waiting := by
      simp only [State.writeStands, Buffer.requestsWrite, Bool.and_eq_true, bne_iff_ne] at stands
      exact stands.2
    exact fit.replaced (fit.not_mem_of_ne_waiting served) ⟨fun _ => .inr rfl, fun waiting => absurd waiting served⟩ served rfl
  | acknowledge c writing => exact fit.vacated writing
  | discard c => exact fit.discardBuffer c
  | issueKill e rest head =>
    refine fit.congr (fun _ => .refl _) rfl ?_
    simp only [State.placesInUse, head]
    rfl
  | removeHead e rest head =>
    refine WaitersFit.grantPlace (fit.congr (fun _ => .refl _) rfl ?_)
    have same : State.reservations { s with inv := { s.inv with entries := rest } } = s.reservations := rfl
    simp only [State.placesInUse, head, List.length_cons, same]
    omega
  | resetBlocks => exact fit.resetBlocks
  | assertReset => exact .assertReset s

theorem waiterLaw_kept : KeptByStep WaiterLaw := by
  simp only [funext fun s => propext (waiterLaw_iff s)]
  exact keptByStep_of_queueMove (fun _ _ h => ⟨h.buffer, h.mem, h.nodup, h.full, h.most⟩) QueueMove.keeps_waitersFit

/-- Settles O53: each of the five laws is kept by each move of the queue, and a step is a chain of those moves. -/
theorem queueLawsKept : Obligations.QueueLawsKept :=
  ⟨placesLaw_kept, unissuedLinesLaw_kept, headIssuedLaw_kept, faultLogLaw_kept, waiterLaw_kept⟩

end Sys2Proof.Machine
end

section
/-!
SUPPORT. The address-phase arbiter (R139 to R141): which requester it chooses, one equation for each class, and what a
grant does with the choice; O34.
-/

namespace Sys2Proof.Machine

/-! ## The choice (R139, R140) -/

section
variable {s : State}

theorem State.killStands_of_head {e : InvEntry} {rest : List InvEntry} (entries : s.inv.entries = e :: rest) :
    s.killStands = !e.issued := by
  simp [State.killStands, entries]

theorem State.chooseRequest_of_kill (kill : s.killStands = true) : s.chooseRequest = some .kill := by
  rw [State.chooseRequest, if_pos kill]

/-- R139: with no KILL standing, the WALK request placed earlier goes first. -/
theorem State.chooseRequest_of_walk {i : Fin 2} {older : List (Fin 2)} (noKill : s.killStands = false)
    (walks : s.walk.requests = i :: older) : s.chooseRequest = some (.walk i) := by
  simp [State.chooseRequest, noKill, walks]

variable (noKill : s.killStands = false) (noWalk : s.walk.requests = [])
include noKill noWalk

/-- R140: line writes go before line reads, each class in its own round robin. -/
theorem State.chooseRequest_of_write {c : Chan} (next : NextInClass s.writeStands s.bus.writeLast c) :
    s.chooseRequest = some (.write c) := by
  have found := (find_round_iff ..).mpr next
  simp [State.chooseRequest, noKill, noWalk, found]

theorem State.chooseRequest_of_noWrite (noWrite : ∀ d, s.writeStands d = false) :
    s.chooseRequest = ((roundFrom allChans s.bus.readLast).find? s.readStands).map .read := by
  have missed : (roundFrom allChans s.bus.writeLast).find? s.writeStands = none :=
    List.find?_eq_none.mpr fun d _ => by simp [noWrite d]
  simp [State.chooseRequest, noKill, noWalk, missed]

theorem State.chooseRequest_of_read {c : Chan} (noWrite : ∀ d, s.writeStands d = false)
    (next : NextInClass s.readStands s.bus.readLast c) : s.chooseRequest = some (.read c) := by
  rw [State.chooseRequest_of_noWrite noKill noWalk noWrite, (find_round_iff ..).mpr next, Option.map_some]

theorem State.chooseRequest_of_nothing (idle : ∀ c, s.writeStands c = false ∧ s.readStands c = false) :
    s.chooseRequest = none := by
  have missed : (roundFrom allChans s.bus.readLast).find? s.readStands = none :=
    List.find?_eq_none.mpr fun d _ => by simp [(idle d).2]
  rw [State.chooseRequest_of_noWrite noKill noWalk fun d => (idle d).1, missed, Option.map_none]

end

/-! ## The grant (R139, R141) -/

section
variable {s : State} (released : s.resetHeld = false)
include released

theorem exec_busGrant_of_chosen {r : Requester} (room : s.bus.cycles.length < 4) (chosen : s.chooseRequest = some r) :
    exec .busGrant s = .next (s.issue r) := by
  rw [exec_busGrant, State.unlessReset_of_not_held released, State.busGrant, if_pos room, chosen]

/-- R139: a grant that finds no room or no request is returned unused. -/
theorem exec_busGrant_of_unused (unused : 4 ≤ s.bus.cycles.length ∨ s.chooseRequest = none) :
    exec .busGrant s = .next s := by
  rw [exec_busGrant, State.unlessReset_of_not_held released, State.busGrant]
  rcases unused with full | nothing
  · rw [if_neg (Nat.not_lt.mpr full)]
  · rw [nothing, ite_self]

end

/-- R141: the KILL's address phase marks the head entry issued. -/
theorem State.issue_kill {s : State} {e : InvEntry} {rest : List InvEntry} (entries : s.inv.entries = e :: rest) :
    s.issue .kill =
      { s with
        bus := s.bus.issue .kill
        inv := { s.inv with entries := { e with issued := true } :: rest } } := by
  simp only [State.issue, entries]

/-- R141: the WALK's address phase marks its slot issued and takes its request out of the class. -/
theorem State.issue_walk {s : State} {i : Fin 2} {older : List (Fin 2)} {w : Walk}
    (walks : s.walk.requests = i :: older) (busy : s.walk.slots[i] = some w) :
    s.issue (.walk i) =
      { s with
        bus := s.bus.issue (.walk i)
        walk :=
          { s.walk with
            slots := s.walk.slots.set i (some { w with issued := true })
            requests := older.filter fun j => j ≠ i } } := by
  simp [State.issue, WalkUnit.modSlot, walks, busy]

/-- Settles O34: in each case the arbiter's choice is known, and the grant issues it. -/
theorem busGrant : Obligations.BusGrant := by
  refine ⟨fun s released room => ⟨fun e rest entries unissued => ?kill, fun i older w noKill walks busy => ?walk⟩,
    fun c s released room noKill noWalk => ⟨fun next => ?write, fun noWrite next => ?read⟩,
    fun s released unused => ?unused⟩
  case kill =>
    have stands : s.killStands = true := by simp [State.killStands_of_head entries, unissued]
    rw [exec_busGrant_of_chosen released room (State.chooseRequest_of_kill stands), State.issue_kill entries]
    rfl
  case walk =>
    rw [exec_busGrant_of_chosen released room (State.chooseRequest_of_walk noKill walks), State.issue_walk walks busy]
    rfl
  case write => exact exec_busGrant_of_chosen released room (State.chooseRequest_of_write noKill noWalk next)
  case read => exact exec_busGrant_of_chosen released room (State.chooseRequest_of_read noKill noWalk noWrite next)
  case unused =>
    refine exec_busGrant_of_unused released (unused.imp_right ?_)
    rintro ⟨noKill, noWalk, idle⟩
    exact State.chooseRequest_of_nothing noKill noWalk idle

end Sys2Proof.Machine
end

section
/-!
SUPPORT. Completions by identity (R146, R149, R174): one that names no occupied record is ignored, one that names a record
of its kind frees it and is followed by the bus master's report; O35.
-/

namespace Sys2Proof

/-- R138: the number in the identity a completion carries. -/
def Completion.number : Completion → Nat
  | .walk id _ | .lineRead id _ | .lineWrite id _ | .kill id _ => id

end Sys2Proof

namespace Sys2Proof.Machine

theorem BusMaster.recordOf_eq_none_iff (b : BusMaster) (id : Nat) :
    b.recordOf id = none ↔ ∀ k ∈ b.cycles, k.id ≠ id := by
  simp [BusMaster.recordOf]

section
variable {s : State}

theorem State.complete_of_unnamed {k : Completion} (unnamed : s.bus.recordOf k.number = none) : s.complete k = s := by
  cases k with
  | walk id _ | lineRead id _ | lineWrite id _ | kill id _ =>
    have free : s.bus.recordOf id = none := unnamed
    simp only [State.complete, free]

/-! ## A completion taken -/

variable {id id' : Nat}

theorem State.complete_walk {i : Fin 2} (hrec : s.bus.recordOf id = some { id := id', requester := .walk i })
    (result : WalkResult) : s.complete (.walk id result) = ((s.freeRecord id).walkReturn i result).endResetting := by
  simp only [State.complete, hrec]

theorem State.complete_lineRead {c : Chan} (hrec : s.bus.recordOf id = some { id := id', requester := .read c })
    (result : LineResult) :
    s.complete (.lineRead id result) = ((s.freeRecord id).lineReadReturn c result).endResetting := by
  simp only [State.complete, hrec]

theorem State.complete_lineWrite {c : Chan} (hrec : s.bus.recordOf id = some { id := id', requester := .write c })
    (ack : Ack) : s.complete (.lineWrite id ack) = ((s.freeRecord id).lineWriteAck c ack).endResetting := by
  simp only [State.complete, hrec]

theorem State.complete_kill (hrec : s.bus.recordOf id = some { id := id', requester := .kill }) (ack : Ack) :
    s.complete (.kill id ack) = ((s.freeRecord id).killAck ack).endResetting := by
  simp only [State.complete, hrec]

/-- R149, R174: the bus master's report on a state `t` that has freed the record and not touched the bridge. -/
theorem State.endResetting_of_freed {t : State} (bus : t.bus = (s.freeRecord id).bus) (bridge : t.bridge = s.bridge) :
    t.endResetting.bus = { s.bus with cycles := s.bus.cycles.filter fun j => j.id ≠ id } ∧
      (s.bridge = .running → t.endResetting.bridge = .running) ∧
      (s.bridge = .resetting →
        (t.endResetting.bridge = .running ↔ ∀ j ∈ t.endResetting.bus.cycles, j.requester = .kill)) := by
  have kept : t.endResetting.bus = t.bus := by simp
  refine ⟨kept.trans bus, fun running => ?_, fun resetting => ?_⟩
  · have running : t.bridge = .running := bridge.trans running
    rw [State.endResetting_of_running running, running]
  · rw [State.endResetting_running_iff (bridge.trans resetting), kept]

end

/-- Settles O35: an unnamed completion is ignored; a named one is its requester's handling of the freed record, which
touches neither the bus master nor the bridge, and then the bus master's report. -/
theorem completionsByIdentity : Obligations.CompletionsByIdentity := by
  refine ⟨fun id s released free => ?unnamed, fun ⟨id, requester⟩ i s released hrec kind => ?named⟩
  case unnamed =>
    have ignored (k : Completion) (number : k.number = id) :
        Host.Outcome.next (s.unlessReset fun s => s.complete k) = (.next s : Result) := by
      have unnamed := (s.bus.recordOf_eq_none_iff id).mpr free
      rw [State.unlessReset_of_not_held released, State.complete_of_unnamed (number ▸ unnamed)]
    exact ⟨fun r => ⟨ignored (.walk id r) rfl, ignored (.walk id r) rfl⟩,
      fun r => ⟨ignored (.lineRead id r) rfl, ignored (.lineRead id r) rfl⟩,
      fun a => ⟨ignored (.lineWrite id a) rfl, ignored (.lineWrite id a) rfl⟩,
      fun a => ⟨ignored (.kill id a) rfl, ignored (.kill id a) rfl⟩⟩
  case named =>
    cases requester with
    | walk slot =>
      obtain ⟨r, rfl⟩ := kind
      rw [exec_walkDataReturn, State.unlessReset_of_not_held released, State.complete_walk hrec]
      exact ⟨_, rfl, State.endResetting_of_freed (by simp) (by simp)⟩
    | read c =>
      obtain ⟨r, rfl⟩ := kind
      rw [exec_lineReadDataReturn, State.unlessReset_of_not_held released, State.complete_lineRead hrec]
      exact ⟨_, rfl, State.endResetting_of_freed (by simp) (by simp)⟩
    | write c =>
      obtain ⟨a, rfl⟩ := kind
      rw [exec_lineWriteAcknowledge_of_record released hrec]
      exact ⟨_, rfl, State.endResetting_of_freed (by simp) (by simp)⟩
    | kill =>
      obtain ⟨a, rfl⟩ := kind
      rw [exec_killAcknowledge, State.unlessReset_of_not_held released, State.complete_kill hrec]
      exact ⟨_, rfl, State.endResetting_of_freed (by simp) (by simp)⟩

end Sys2Proof.Machine
end

section
/-!
SUPPORT. The fault log's pop, the host's write-1-to-clear of the sticky flags, causes and channel set, and the interrupt
line (R155, R157, R160 to R162); O45 and O46.
-/

namespace Sys2Proof.Machine

/-! ## One-bit fields -/

theorem bitAt_getElem (b : Bool) (lsb : Nat) {i : Nat} (h : i < 32) : (bitAt b lsb)[i] = (decide (i = lsb) && b) := by
  cases b with
  | false => simp [bitAt]
  | true => simp [bitAt, ← BitVec.twoPow_eq, BitVec.getElem_twoPow]

/-- Write-1-to-clear of one field: masking the word off clears the field exactly where its own bit is written with 1. -/
theorem bitAt_and_not (b : Bool) (lsb : Nat) (value : Word) :
    bitAt b lsb &&& ~~~value = bitAt (b && !value.getLsbD lsb) lsb := by
  ext i hi
  by_cases same : i = lsb
  · subst same
    simp [bitAt_getElem, hi]
  · simp [bitAt_getElem, same]

theorem ne_zero_iff_exists_getLsbD {w : Nat} (x : BitVec w) : x ≠ 0 ↔ ∃ i : Fin w, x.getLsbD i.val = true := by
  constructor
  · intro nonzero
    by_contra zeros
    refine nonzero (BitVec.eq_of_getLsbD_eq fun i hi => ?_)
    simpa using not_exists.mp zeros ⟨i, hi⟩
  · rintro ⟨i, one⟩ rfl
    simp at one

/-! ## Causes and the line (R158, R160, R162) -/

section
variable (s : State)

theorem State.faultPending_iff : s.faultPending = true ↔ s.log.records ≠ [] := by
  simp [State.faultPending]

theorem State.channelOffCause_iff : s.channelOffCause = true ↔ s.ints.channelOff ≠ 0 := by
  simp [State.channelOffCause]

/-- R179: the cause at each bit of INT_CAUSE. -/
theorem State.causeBits_getElem (i : Fin 6) :
    s.causeBits[i.val] =
      #v[s.faultPending, s.ints.logOverflow, s.ints.coherence, s.ints.cmdDone, s.channelOffCause, s.ints.sweepDone][i] := by
  fin_cases i <;> simp [State.causeBits, bitAt_getElem]

theorem State.intAsserted_iff :
    s.intAsserted = true ↔
      s.resetHeld = false ∧ ∃ i : Fin 6, s.causeBits[i.val] = true ∧ s.ints.mask[i.val] = true := by
  have driven : (s.causeBits &&& s.ints.mask != 0) = true ↔
      ∃ i : Fin 6, s.causeBits[i.val] = true ∧ s.ints.mask[i.val] = true := by
    rw [bne_iff_ne, ne_zero_iff_exists_getLsbD]
    simp
  rw [State.intAsserted, Bool.and_eq_true, Bool.not_eq_true', driven]

/-! ## Write-1-to-clear (R157, R160, R161) -/

theorem State.clearStatus_word (value : Word) : (s.clearStatus value).sticky.word = s.sticky.word &&& ~~~value := by
  simp [State.clearStatus, Sticky.word, BitVec.and_or_distrib_right, bitAt_and_not]

/-- R161: the mask leaves out bits 0 and 4, whose causes are not stored: the log and the channel set stay. -/
theorem State.clearCauses_causeBits (value : Word) :
    (s.clearCauses value).causeBits = s.causeBits &&& ~~~(value.setWidth 6 &&& 0b101110#6) := by
  have cleared : value.setWidth 6 &&& 0b101110#6 = (value &&& 0b101110#32).setWidth 6 := by simp
  rw [cleared, ← BitVec.setWidth_not (by decide)]
  simp only [State.causeBits, ← BitVec.setWidth_and, BitVec.and_or_distrib_right, bitAt_and_not]
  simp [State.clearCauses, State.faultPending, State.channelOffCause]

theorem State.clearChannelOff_getLsbD (value : Word) (c : Chan) :
    (s.clearChannelOff value).ints.channelOff.getLsbD c.val =
      (s.ints.channelOff.getLsbD c.val && !value.getLsbD c.val) := by
  simp [State.clearChannelOff, c.isLt]

/-! ## The pop (R155) -/

theorem State.popFault_faultPending_iff : s.popFault.faultPending = true ↔ 2 ≤ s.log.records.length := by
  rw [State.faultPending_iff, State.popFault, ← List.length_pos_iff, List.length_tail]
  omega

end

/-- Settles O46: the line is driven by the bits common to INT_CAUSE and INT_MASK, taken one by one. -/
theorem interruptLine : Obligations.InterruptLine := by
  refine ⟨fun value s released => ?_, fun s => ?_⟩
  · rw [exec_intMaskWrite, State.unlessReset_of_not_held released, State.writeMask, BitVec.ofNat_toNat]
  · rw [State.intAsserted_iff, ← State.faultPending_iff, ← State.channelOffCause_iff]
    simp [State.causeBits_getElem, Fin.exists_fin_succ]

/-- Settles O45: the pop, and the three clearing writes in turn. -/
theorem faultPopAndWriteOneToClear : Obligations.FaultPopAndWriteOneToClear := by
  refine ⟨fun value s released => ?pop, fun value s released => ⟨?status, ?causes, ?channels⟩⟩
  case pop =>
    rw [exec_faultPop, State.unlessReset_of_not_held released]
    exact ⟨_, rfl, fun r rest records => congrArg List.tail records, fun records => congrArg List.tail records,
      s.popFault_faultPending_iff, rfl⟩
  case status =>
    rw [exec_globalStatusClear, State.unlessReset_of_not_held released]
    exact ⟨_, rfl, s.clearStatus_word value, rfl⟩
  case causes =>
    rw [exec_intCauseClear, State.unlessReset_of_not_held released]
    exact ⟨_, rfl, s.clearCauses_causeBits value, rfl, rfl, rfl⟩
  case channels =>
    rw [exec_channelOffClear, State.unlessReset_of_not_held released]
    exact ⟨_, rfl, s.clearChannelOff_getLsbD value,
      (State.channelOffCause_iff _).trans (ne_zero_iff_exists_getLsbD _), rfl⟩

end Sys2Proof.Machine
end

section
/-!
SUPPORT. The nine commands refused (R169, R170), and writes to the register window by address, lanes and register (R164
to R168, R173, R178, R179); O11, O48, O49 and O50.
-/

namespace Sys2Proof.Machine

/-! ## Commands refused (R169, R170) -/

section
variable {s : State} {n : CommandName} {channel : BitVec 4} {page : BitVec 14}

theorem State.command_of_busy (busy : s.cmd.busy = true) : s.command n channel page = s.raiseCmdOverrun := if_pos busy

theorem State.command_of_resetting (idle : s.cmd.busy = false) (resetting : s.bridge = .resetting) :
    s.command n channel page = s.completeCommand n channel page .resetting := by
  simp [State.command, idle, resetting]

theorem State.command_of_badOperand (idle : s.cmd.busy = false) (running : s.bridge = .running)
    (bad : n.operandsOk channel page = false) :
    s.command n channel page = s.completeCommand n channel page .badOperand := by
  simp [State.command, idle, running, bad]

theorem CommandName.usesChannel_iff : n.usesChannel = true ↔ n ≠ .xlatFlushAll ∧ n ≠ .tagsClear := by
  cases n <;> decide

theorem CommandName.usesPage_iff : n.usesPage = true ↔ n = .xlatFlushPage ∨ n = .xlatProbe := by
  cases n <;> decide

/-- R170: an operand is refused when the command uses it and it is out of range. -/
theorem CommandName.operandsOk_eq_false_iff :
    n.operandsOk channel page = false ↔
      (8 ≤ channel.toNat ∧ n ≠ .xlatFlushAll ∧ n ≠ .tagsClear) ∨
        (8192 ≤ page.toNat ∧ (n = .xlatFlushPage ∨ n = .xlatProbe)) := by
  rw [← usesChannel_iff, ← usesPage_iff]
  simp only [CommandName.operandsOk, Bool.and_eq_false_iff, Bool.or_eq_false_iff, Bool.not_eq_false',
    decide_eq_false_iff_not, not_lt, and_comm]

end

/-- Settles O11: the tests of R169 and R170 in their order. -/
theorem commandRefused : Obligations.CommandRefused := by
  intro n channel page s released
  rw [CommandName.exec_instr, State.unlessReset_of_not_held released]
  refine ⟨fun busy => ?_, fun idle resetting => ?_, fun idle running bad => ?_⟩
  · rw [State.command_of_busy busy, State.raiseCmdOverrun]
  · rw [State.command_of_resetting idle resetting, State.completeCommand]
  · rw [State.command_of_badOperand idle running (CommandName.operandsOk_eq_false_iff.mpr bad), State.completeCommand]

/-! ## Fields of the written words (R168, R179) -/

theorem extractLsb'_eq_ofNat (value : Word) (lsb len : Nat) :
    value.extractLsb' lsb len = BitVec.ofNat len (value.toNat / 2 ^ lsb) := by
  rw [BitVec.extractLsb', Nat.shiftRight_eq_div_pow]

theorem lowField_toNat (value : Word) (len : Nat) : (value.extractLsb' 0 len).toNat = value.toNat % 2 ^ len := by
  simp

theorem commandOfCode_of_code {code : BitVec 4} {n : CommandName} (h : code.toNat = commandCode (some n)) :
    commandOfCode code = some n := by
  simp only [commandOfCode, h]
  cases n <;> rfl

theorem commandOfCode_of_unnamed {code : BitVec 4} (h : code.toNat = 0 ∨ 10 ≤ code.toNat) :
    commandOfCode code = none := by
  revert code
  decide

section
variable {s : State} {value : Word}

/-- R168: a write to COMMAND whose code names a command is that command with the operand fields of the word. -/
theorem State.writeCommand_of_code {n : CommandName} (h : value.toNat % 16 = commandCode (some n)) :
    s.writeCommand value =
      s.command n (BitVec.ofNat 4 (value.toNat / 16)) (BitVec.ofNat 14 (value.toNat / 256)) := by
  simp only [State.writeCommand, commandOfCode_of_code ((lowField_toNat value 4).trans h)]
  rw [extractLsb'_eq_ofNat, extractLsb'_eq_ofNat]
  rfl

/-- R166, R169: a code that names no command is dropped while BUSY and is a bad write while IDLE. -/
theorem State.writeCommand_of_unnamed (h : value.toNat % 16 = 0 ∨ 10 ≤ value.toNat % 16) :
    s.writeCommand value = if s.cmd.busy then s.raiseCmdOverrun else s.raiseBadWrite := by
  have unnamed : commandOfCode (value.extractLsb' 0 4) = none :=
    commandOfCode_of_unnamed (by rwa [lowField_toNat])
  simp only [State.writeCommand, unnamed]

end

/-! ## The registers at their offsets (R167) -/

/-- R167: the registers of access type RO. -/
def Reg.isReadOnly : Reg → Bool
  | .ident | .commandStatus | .probeResult | .shadowStatus | .invalidateStatus | .busStatus => true
  | .faultHead0 | .faultHead1 | .faultLogStatus | .channelStatus _ => true
  | .resetControl | .timebase | .globalStatus | .intCause | .intMask | .channelOffSet => false
  | .command | .shadowControl | .faultPop | .desc _ _ => false

/-- R165: a write to a read-only register changes nothing. -/
theorem State.writeReg_of_readOnly {r : Reg} (h : r.isReadOnly = true) (s : State) (value : Word) :
    s.writeReg r value = s := by
  cases r with
  | ident | commandStatus | probeResult | shadowStatus | invalidateStatus | busStatus | faultHead0 | faultHead1
  | faultLogStatus | channelStatus => rfl
  | resetControl | timebase | globalStatus | intCause | intMask | channelOffSet | command | shadowControl | faultPop
  | desc => cases h

/-- R167: the offsets of the block's read-only registers. -/
theorem regAt_readOnly : ∀ offset ∈ [0x000, 0x024, 0x028, 0x034, 0x040, 0x044, 0x050, 0x054, 0x058],
    offset < 0x1000 ∧ offset % 4 = 0 ∧ (regAt offset).any Reg.isReadOnly = true := by
  decide

theorem regAt_eq_none {offset : Nat}
    (unlisted : offset ∉ [0x000, 0x004, 0x008, 0x00C, 0x010, 0x014, 0x018, 0x020, 0x024, 0x028, 0x030, 0x034, 0x040,
      0x044, 0x050, 0x054, 0x058, 0x05C])
    (outside : offset < 0x100 ∨ 0x180 ≤ offset) : regAt offset = none := by
  simp only [List.mem_cons, List.not_mem_nil, or_false, not_or] at unlisted
  have notChannel : ¬ (0x100 ≤ offset ∧ offset < 0x180 ∧ offset % 4 = 0) := by omega
  simp only [regAt, unlisted, notChannel, if_false]

/-! ## Addresses in the window (R164) -/

section
variable {s : State} {offset : Nat}

theorem State.inWindow_iff (s : State) (addr : Word) :
    s.inWindow addr = true ↔ s.windowBase.toNat ≤ addr.toNat ∧ addr.toNat < s.windowBase.toNat + 0x1000 := by
  simp [State.inWindow]

theorem WindowBaseLaw.toNat_add (base : WindowBaseLaw s) (inside : offset < 0x1000) :
    (s.windowBase + BitVec.ofNat 32 offset).toNat = s.windowBase.toNat + offset := by
  have top := base.toNat_le
  rw [BitVec.toNat_add, BitVec.toNat_ofNat]
  omega

theorem State.inWindow_add (base : WindowBaseLaw s) (inside : offset < 0x1000) :
    s.inWindow (s.windowBase + BitVec.ofNat 32 offset) = true := by
  rw [State.inWindow_iff, base.toNat_add inside]
  omega

theorem State.offsetOf_add (base : WindowBaseLaw s) (inside : offset < 0x1000) (word : offset % 4 = 0) :
    s.offsetOf (s.windowBase + BitVec.ofNat 32 offset) = offset := by
  rw [State.offsetOf, base.toNat_add inside]
  omega

/-! ## Writes of the window (R164 to R166) -/

/-- R165: a 4-byte write inside the window is handled by the register at its offset, and by none where none stands. -/
theorem State.windowWrite_add (base : WindowBaseLaw s) (inside : offset < 0x1000) (word : offset % 4 = 0)
    (value : Word) :
    s.windowWrite (s.windowBase + BitVec.ofNat 32 offset) 0xF value =
      (regAt offset).elim s fun r => s.writeReg r value := by
  rw [State.windowWrite, if_pos (State.inWindow_add base inside), if_pos rfl, State.offsetOf_add base inside word]
  cases regAt offset <;> rfl

theorem State.windowWrite_of_regAt (base : WindowBaseLaw s) {r : Reg} (hr : regAt offset = some r)
    (aligned : offset < 0x1000 ∧ offset % 4 = 0) (value : Word) :
    s.windowWrite (s.windowBase + BitVec.ofNat 32 offset) 0xF value = s.writeReg r value := by
  rw [State.windowWrite_add base aligned.1 aligned.2, hr, Option.elim_some]

theorem State.windowWrite_of_readOnly (base : WindowBaseLaw s) (aligned : offset < 0x1000 ∧ offset % 4 = 0)
    (readOnly : (regAt offset).any Reg.isReadOnly = true) (value : Word) :
    s.windowWrite (s.windowBase + BitVec.ofNat 32 offset) 0xF value = s := by
  obtain ⟨r, hr, ro⟩ := (Option.any_eq_true _ _).mp readOnly
  rw [State.windowWrite_of_regAt base hr aligned, State.writeReg_of_readOnly ro]

theorem State.windowWrite_outside {addr : Word}
    (h : addr.toNat < s.windowBase.toNat ∨ s.windowBase.toNat + 0x1000 ≤ addr.toNat) (lanes : BitVec 4)
    (value : Word) : s.windowWrite addr lanes value = s := by
  refine if_neg fun inside => ?_
  rw [State.inWindow_iff] at inside
  omega

/-- R166: fewer than four bytes. -/
theorem State.windowWrite_of_partial {addr : Word} {lanes : BitVec 4} (above : s.windowBase.toNat ≤ addr.toNat)
    (below : addr.toNat < s.windowBase.toNat + 0x1000) (fewer : lanes ≠ 0xF) (value : Word) :
    s.windowWrite addr lanes value = s.raiseBadWrite := by
  rw [State.windowWrite, if_pos ((s.inWindow_iff addr).mpr ⟨above, below⟩), if_neg fewer]

/-- R165, R168: a 4-byte write at a register is a command whose effect is that register's write. -/
theorem exec_registerWrite_of_regAt (base : WindowBaseLaw s) {r : Reg} (hr : regAt offset = some r)
    (aligned : offset < 0x1000 ∧ offset % 4 = 0) {value : Word} {f : State → State}
    (same : s.writeReg r value = f s) :
    exec (.registerWrite (s.windowBase + BitVec.ofNat 32 offset) 0xF value) s = .next (s.unlessReset f) := by
  rw [exec_registerWrite, State.unlessReset, State.windowWrite_of_regAt base hr aligned, same, State.unlessReset]

end

/-- Settles O48: each register stands at its offset, and its write is the effect of the command that names it. -/
theorem registerWriteIsItsCommand : Obligations.RegisterWriteIsItsCommand := by
  intro value s base
  have reaches {offset : Nat} {r : Reg} {f : State → State} (hr : regAt offset = some r)
      (aligned : offset < 0x1000 ∧ offset % 4 = 0) (same : s.writeReg r value = f s) :=
    exec_registerWrite_of_regAt base hr aligned same
  refine ⟨fun trigger => reaches (r := .resetControl) rfl (by decide) (if_pos trigger),
    reaches (r := .timebase) rfl (by decide) rfl, reaches (r := .globalStatus) rfl (by decide) rfl,
    reaches (r := .intCause) rfl (by decide) rfl, reaches (r := .intMask) rfl (by decide) rfl,
    reaches (r := .channelOffSet) rfl (by decide) rfl, reaches (r := .faultPop) rfl (by decide) rfl,
    fun n code => ?command, fun mode released code => ?shadow, fun c => ?descriptor⟩
  case command =>
    rw [CommandName.exec_instr]
    exact reaches (r := .command) rfl (by decide) (State.writeCommand_of_code code)
  case shadow =>
    have names : (value.extractLsb' 0 2).toNat = mode.code := (lowField_toNat value 2).trans code
    have written := s.writeShadowControl_of_code (BitVec.ofNat 8 (value.toNat / 256)) names
    rw [← written, ← State.unlessReset_of_not_held released fun s => s.writeShadowControl _ _]
    refine reaches (r := .shadowControl) rfl (by decide) ?_
    rw [State.writeReg, extractLsb'_eq_ofNat value 8]
    rfl
  case descriptor =>
    obtain ⟨origin, length, settings, -⟩ := regAt_channel c
    have below := c.isLt
    exact ⟨reaches origin (by omega) rfl, reaches length (by omega) rfl, reaches settings (by omega) rfl⟩

/-- Settles O49: the address, then the lanes, then the register, then the field written to it decides. -/
theorem registerWriteChangesNothingOrIsBad : Obligations.RegisterWriteChangesNothingOrIsBad := by
  refine ⟨fun value s released base => ?nothing, fun value s released base => ?bad⟩
  all_goals
    have hexec {addr : Word} {lanes : BitVec 4} {t : State} (h : s.windowWrite addr lanes value = t) :
        exec (.registerWrite addr lanes value) s = .next t := by
      rw [exec_registerWrite, State.unlessReset_of_not_held released, h]
    have reaches {offset : Nat} {r : Reg} {t : State} (hr : regAt offset = some r)
        (aligned : offset < 0x1000 ∧ offset % 4 = 0) (h : s.writeReg r value = t) :=
      hexec ((State.windowWrite_of_regAt base hr aligned value).trans h)
  case nothing =>
    refine ⟨fun addr lanes outside => hexec (State.windowWrite_outside outside lanes value),
      fun offset listed => hexec ?readOnly, fun c => hexec ?channelStatus,
      fun offset inside word unlisted outside => hexec ?noRegister,
      fun clear => reaches (r := .resetControl) rfl (by decide) ?notTriggered⟩
    case readOnly =>
      obtain ⟨inside, word, readOnly⟩ := regAt_readOnly offset listed
      exact State.windowWrite_of_readOnly base ⟨inside, word⟩ readOnly value
    case channelStatus =>
      obtain ⟨-, -, -, status⟩ := regAt_channel c
      have below := c.isLt
      exact State.windowWrite_of_readOnly base (by omega) (by rw [status]; rfl) value
    case noRegister => rw [State.windowWrite_add base inside word, regAt_eq_none unlisted outside, Option.elim_none]
    case notTriggered => simp only [State.writeReg, clear, Bool.false_eq_true, if_false]
  case bad =>
    have noMode (three : value.toNat % 4 = 3) : (value.extractLsb' 0 2).toNat = 3 := (lowField_toNat value 2).trans three
    exact ⟨fun addr lanes above below fewer => hexec (State.windowWrite_of_partial above below fewer value),
      fun three => reaches (r := .shadowControl) rfl (by decide) (s.writeShadowControl_of_three _ (noMode three)),
      fun unnamed idle => reaches (r := .command) rfl (by decide)
        ((State.writeCommand_of_unnamed unnamed).trans (if_neg (by simp [idle]))),
      fun unnamed busy => reaches (r := .command) rfl (by decide)
        ((State.writeCommand_of_unnamed unnamed).trans (if_pos busy))⟩

/-! ## IDENT (R178) -/

/-- R164: no register write moves the window, nor asserts `RESET#`. -/
theorem State.windowWrite_window (s : State) (addr : Word) (lanes : BitVec 4) (value : Word) :
    (s.windowWrite addr lanes value).resetHeld = s.resetHeld ∧
      (s.windowWrite addr lanes value).windowBase = s.windowBase := by
  have reg (r : Reg) :
      (s.writeReg r value).resetHeld = s.resetHeld ∧ (s.writeReg r value).windowBase = s.windowBase := by
    cases r with
    | resetControl =>
      simp only [State.writeReg]
      split
      · simp
      · exact ⟨rfl, rfl⟩
    | _ => simp [State.writeReg]
  unfold State.windowWrite
  repeat' split
  · exact reg _
  all_goals exact ⟨rfl, rfl⟩

theorem State.windowRead_ident {s : State} (released : s.resetHeld = false) (base : WindowBaseLaw s) :
    s.windowRead s.windowBase 0xF = some 0x1D420801 := by
  have read := State.windowRead_of_regAt released base (offset := 0) (r := .ident) (by decide) rfl rfl
  rwa [BitVec.add_zero] at read

/-- Settles O50: IDENT is read-only, and no register write moves the window under it. -/
theorem ident : Obligations.Ident := by
  intro s base released
  refine ⟨0x1D420801, State.windowRead_ident released base, rfl, by decide, by decide, by decide,
    fun value => ⟨?_, fun addr lanes t h => ?_⟩⟩
  · have kept := State.windowWrite_of_readOnly base (offset := 0) (by decide) rfl value
    rw [BitVec.add_zero] at kept
    rw [exec_registerWrite, State.unlessReset_of_not_held released, kept]
  · rw [exec_registerWrite, State.unlessReset_of_not_held released] at h
    cases h
    obtain ⟨held, window⟩ := s.windowWrite_window addr lanes value
    rw [← window]
    refine State.windowRead_ident (held.trans released) ?_
    rwa [WindowBaseLaw, window]

end Sys2Proof.Machine
end

section
/-! ## A step on a queue with a command in it (00_scope.md) -/

namespace Sys2Proof.Machine

/-- Settles O1: a queue with a command in front selects the branch of `step` that runs it, as the empty queue of O2
selects the other. -/
theorem stepRunsFrontCommand : Obligations.StepRunsFrontCommand := by
  intro i rest s front
  simp only [step, front]

end Sys2Proof.Machine
end
